-- ==== Sys2Proof/Word.lean ====
section
/-! DEFINITION. The word types of the block (00_scope.md R10, R12): an octet, and the 16 and 32 bit registers.
Bit 0 is the least significant bit; arithmetic wraps. -/

namespace Sys2Proof

/-- One octet: 8 bits, bit 7 is the MSB (R10). -/
abbrev Byte := BitVec 8

/-- A 16-bit register or field. -/
abbrev Half := BitVec 16

/-- A 32-bit register: the millisecond counter and the operating hours. -/
abbrev Word := BitVec 32

end Sys2Proof
end

