-- ==== Sys2Proof/Config.lean ====
section
/-! DEFINITION. The fixed parameters of 00_scope.md R7 and R8, and the one free value: what the frame buffer holds
after a RESET where no octet has been stored since (10_state.md R42). -/

namespace Sys2Proof.Config

/-- `BUF_SIZE` (R7): octets in the frame buffer, indices 0 to 254. -/
abbrev bufSize : Nat := 255

/-- `WDOG_MS` (R7): the watchdog limit in milliseconds. -/
abbrev wdogMs : Nat := 20000

/-- `SYNC_VBUS` (R7). -/
abbrev syncVbus : Byte := 0xAA

/-- `SYNC_KW` (R7). -/
abbrev syncKw : Byte := 0x01

/-- `SYNC_P300` (R7): the first of the two accepted values. -/
abbrev syncP300 : Byte := 0x05

/-- `SYNC_P300` (R7): the second of the two accepted values. -/
abbrev syncP300Alt : Byte := 0x01

/-- `SYNC_KM` (R7). -/
abbrev syncKm : Byte := 0x68

/-- `KM_STOP` (R7). -/
abbrev kmStop : Byte := 0x16

/-- `VBUS_VERSION` accepted (R7). -/
abbrev vbusVersion : BitVec 4 := 1

/-- `VBUS_CMD_DATA` (R7): the one command whose frames are extracted. -/
abbrev vbusCmdData : Half := 0x0100

/-- `VBUS_HDR_TRIGGER` (R7): buffered octets at which the header is decoded. -/
abbrev vbusHdrTrigger : Nat := 11

/-- `VBUS_CRC_INIT` (R7). -/
abbrev vbusCrcInit : BitVec 7 := 0x7F

/-- `KM_CRC_POLY` (R7). -/
abbrev kmCrcPoly : Half := 0x1021

/-- `KM_CRC_INIT` (R7). -/
abbrev kmCrcInit : Half := 0x0000

/-- `KM_XOR` (R7): the mask of the KM status record. -/
abbrev kmXor : Byte := 0xAA

/-- The free value of the frame buffer: the octet at index `a` after RESET number `k`, as long as nothing has been
stored there. R42 calls it unspecified; no body, so nothing can be proved of it (log entry 4). -/
opaque unspecifiedOctet (k a : Nat) : Byte

end Sys2Proof.Config
end

