-- ==== Sys2Proof/Syntax.lean ====
section
/-! DEFINITION. The operations of 30_encoding.md R81, one constructor per row of spec/opcode_table.json, and the two
value sets that select among them: the protocol (10_state.md R25) and the state (R26).
An operation of format EV8 (R71) carries its event octet `b = rx_data`; one of format NONE carries nothing. -/

namespace Sys2Proof

/-- The four wire protocols (R2, R25). -/
inductive Protocol where
  | vbus | kw | p300 | km
deriving DecidableEq, Repr

/-- The register value of a protocol (R25, 92_eei_decisions.md D3). -/
def Protocol.code : Protocol → BitVec 2
  | .vbus => 0 | .kw => 1 | .p300 => 2 | .km => 3

/-- The protocol that `cfg_protocol` selects; all four values are legal (R83). -/
def Protocol.ofCode (c : BitVec 2) : Protocol :=
  if c = 0 then .vbus else if c = 1 then .kw else if c = 2 then .p300 else .km

/-- The frame state machine's states (R26). -/
inductive Phase where
  | sync | receive | decode | error
deriving DecidableEq, Repr

/-- The register value of a state, shown on `state_o` (R26, D6). -/
def Phase.code : Phase → BitVec 2
  | .sync => 0 | .receive => 1 | .decode => 2 | .error => 3

/-- The nine Error causes (60_exceptions.md R232). They are names for the reader: no state element holds one and no
rule reads one (R231). -/
inductive Cause where
  | vbusMsb | vbusHdrCrc | vbusBlockCrc | kwXor | p300Sum | kmHeader | kmStopOrCrc | overflow | watchdog
deriving DecidableEq, Repr

/-- The 40 operations (R70, R81), in the table's order. -/
inductive Instr where
  -- system (R100, R240, R243, R101)
  | reset
  | err
  | wdog
  | idle
  -- sync (R102 to R106)
  | syncSkip (b : Byte)
  | syncVbus (b : Byte)
  | syncKw (b : Byte)
  | syncP300 (b : Byte)
  | syncKm (b : Byte)
  -- VBUS receive (R122 to R130)
  | vrxMsb (b : Byte)
  | vrxHdrDiscard (b : Byte)
  | vrxHdrCrcerr (b : Byte)
  | vrxHdrOk (b : Byte)
  | vrxStore (b : Byte)
  | vrxEndOk (b : Byte)
  | vrxEndCrcerr (b : Byte)
  | vrxOvf (b : Byte)
  -- KW receive (R141 to R144)
  | krxStore (b : Byte)
  | krxEndOk (b : Byte)
  | krxEndErr (b : Byte)
  | krxOvf (b : Byte)
  -- P300 receive (R145 to R148)
  | prxStore (b : Byte)
  | prxEndOk (b : Byte)
  | prxEndErr (b : Byte)
  | prxOvf (b : Byte)
  -- KM receive (R163 to R168)
  | mrxStore (b : Byte)
  | mrxHdrOk (b : Byte)
  | mrxHdrErr (b : Byte)
  | mrxEndOk (b : Byte)
  | mrxEndErr (b : Byte)
  | mrxOvf (b : Byte)
  -- decode (R186, R189 to R192, R211, R212, R219, R220)
  | decVbusDrop
  | decVbusVitosolic
  | decVbusBx
  | decVbusMx
  | decVbusGeneric
  | decKw
  | decP300
  | decKmStatus
  | decKmOther
deriving DecidableEq, Repr

/-- The row of an operation in the table of R81 (its column `#`). -/
def Instr.number : Instr → Nat
  | .reset => 1 | .err => 2 | .wdog => 3 | .idle => 4
  | .syncSkip _ => 5 | .syncVbus _ => 6 | .syncKw _ => 7 | .syncP300 _ => 8 | .syncKm _ => 9
  | .vrxMsb _ => 10 | .vrxHdrDiscard _ => 11 | .vrxHdrCrcerr _ => 12 | .vrxHdrOk _ => 13
  | .vrxStore _ => 14 | .vrxEndOk _ => 15 | .vrxEndCrcerr _ => 16 | .vrxOvf _ => 17
  | .krxStore _ => 18 | .krxEndOk _ => 19 | .krxEndErr _ => 20 | .krxOvf _ => 21
  | .prxStore _ => 22 | .prxEndOk _ => 23 | .prxEndErr _ => 24 | .prxOvf _ => 25
  | .mrxStore _ => 26 | .mrxHdrOk _ => 27 | .mrxHdrErr _ => 28 | .mrxEndOk _ => 29 | .mrxEndErr _ => 30
  | .mrxOvf _ => 31
  | .decVbusDrop => 32 | .decVbusVitosolic => 33 | .decVbusBx => 34 | .decVbusMx => 35 | .decVbusGeneric => 36
  | .decKw => 37 | .decP300 => 38 | .decKmStatus => 39 | .decKmOther => 40

/-- The event octet of an operation of format EV8; none for format NONE (R71). An operation consumes an octet exactly
when it has one (R81, column Consumes). -/
def Instr.eventOctet : Instr → Option Byte
  | .reset | .err | .wdog | .idle => none
  | .syncSkip b | .syncVbus b | .syncKw b | .syncP300 b | .syncKm b => some b
  | .vrxMsb b | .vrxHdrDiscard b | .vrxHdrCrcerr b | .vrxHdrOk b | .vrxStore b | .vrxEndOk b | .vrxEndCrcerr b
  | .vrxOvf b => some b
  | .krxStore b | .krxEndOk b | .krxEndErr b | .krxOvf b => some b
  | .prxStore b | .prxEndOk b | .prxEndErr b | .prxOvf b => some b
  | .mrxStore b | .mrxHdrOk b | .mrxHdrErr b | .mrxEndOk b | .mrxEndErr b | .mrxOvf b => some b
  | .decVbusDrop | .decVbusVitosolic | .decVbusBx | .decVbusMx | .decVbusGeneric | .decKw | .decP300 | .decKmStatus
  | .decKmOther => none

/-- The operation is one of the nine Decode operations (R82). -/
def Instr.isDecode (i : Instr) : Bool := decide (32 ≤ i.number)

end Sys2Proof
end

