-- ==== Sys2Proof/Machine/State.lean ====
section
/-! DEFINITION. The state of the block (10_state.md R25 to R39, complete by R41), its input ports (R21, R24), and the
state after reset (R42). Everything is plain data. -/

namespace Sys2Proof.Machine

/-- The frame buffer (R30, R50): the octets stored since the last RESET, as (index, octet) pairs with strictly rising
indices below 255. An index that is not listed holds no stored octet: it reads as the free value
`Config.unspecifiedOctet` (R42, log entry 4). -/
abbrev FrameBuffer := List Host.Cell

/-- The listed indices are strictly rising, start at `lo` or above, and stay below 255 (R50). -/
def FrameBuffer.sortedFrom : Nat → FrameBuffer → Bool
  | _, [] => true
  | lo, (k, _) :: m => decide (lo ≤ k) && decide (k < Config.bufSize) && FrameBuffer.sortedFrom (k + 1) m

/-- The canonical form of the buffer. -/
def FrameBuffer.wf (m : FrameBuffer) : Bool := FrameBuffer.sortedFrom 0 m

/-- The VBUS header registers (R29). -/
structure Header where
  /-- `dst_addr` -/
  dstAddr : Half
  /-- `src_addr` -/
  srcAddr : Half
  /-- `proto_ver` -/
  protoVer : BitVec 4
  /-- `cmd` -/
  cmd : Half
  /-- `frame_cnt` -/
  frameCnt : BitVec 8
  /-- `frame_len` -/
  frameLen : BitVec 10
deriving DecidableEq, Repr

/-- The cleared header registers (R42, R103). -/
def Header.zero : Header := ⟨0, 0, 0, 0, 0, 0⟩

/-- The KM view (R39). -/
structure KmView where
  /-- `km_burner` -/
  burner : Bool
  /-- `km_main_pump` -/
  mainPump : Bool
  /-- `km_loop_pump` -/
  loopPump : Bool
  /-- `km_mode` -/
  mode : Byte
  /-- `km_boiler` -/
  boiler : Half
  /-- `km_hot_water` -/
  hotWater : Half
  /-- `km_outdoor` -/
  outdoor : Half
  /-- `km_setpoint` -/
  setpoint : Half
  /-- `km_departure` -/
  departure : Half
deriving DecidableEq, Repr

/-- The KM view after RESET (R42). -/
def KmView.zero : KmView := ⟨false, false, false, 0, 0, 0, 0, 0, 0⟩

/-- The input ports of one step (R21). `rxPending` is what the byte source holds for the block (R22, R24): its first
octet is on `rx_data`, and `rx_valid` is 1 exactly when there is one (log entry 1). -/
structure Ports where
  /-- `rst` -/
  rst : Bool
  /-- `cfg_protocol` -/
  cfgProtocol : BitVec 2
  /-- `now_ms` -/
  nowMs : Word
  /-- the byte source's pending octets, in order -/
  rxPending : List Byte
deriving DecidableEq, Repr

/-- What the byte source does at a step boundary. `arrive` keeps what it holds and adds octets behind it, as the
handshake of R22 demands; `replace` withdraws what it held (the contract broken, 93_implementation_defined.md E5). -/
inductive SourceMove where
  | arrive (octets : List Byte)
  | replace (octets : List Byte)
deriving DecidableEq, Repr

/-- One move of the environment, made at a step boundary: new values of `rst`, `cfg_protocol` and `now_ms`, and the byte
source's move (log entry 2). -/
structure EnvMove where
  rst : Bool
  cfgProtocol : BitVec 2
  nowMs : Word
  source : SourceMove
deriving DecidableEq, Repr

/-- The state of the machine: the block's state elements (R41), then its inputs and parameter (R24, R9), then the
model's own fields `env` and `resets`. -/
structure State where
  /-- `protocol` (R25) -/
  protocol : Protocol
  /-- `state` (R26) -/
  phase : Phase
  /-- `write_idx` (R27) -/
  writeIdx : BitVec 8
  /-- `last_progress_ms` (R28) -/
  lastProgressMs : Word
  /-- `buf` (R30) -/
  buf : FrameBuffer
  /-- the VBUS header registers (R29) -/
  header : Header
  /-- `ready` (R32) -/
  ready : Bool
  /-- `bus_ok` (R32) -/
  busOk : Bool
  /-- `T[0..31]` (R33) -/
  temp : Vector Half 32
  /-- `P[0..31]` (R34) -/
  pump : Vector Byte 32
  /-- `R[0..31]` (R35) -/
  relay : Vector Bool 32
  /-- `temp_num` (R36) -/
  tempNum : BitVec 8
  /-- `pump_num` (R36) -/
  pumpNum : BitVec 8
  /-- `relay_num` (R36) -/
  relayNum : BitVec 8
  /-- `error_mask` (R37) -/
  errorMask : Half
  /-- `system_time_minutes` (R37) -/
  systemTimeMinutes : Half
  /-- `heat_quantity_wh` (R37) -/
  heatQuantityWh : Half
  /-- `system_variant` (R37) -/
  systemVariant : Byte
  /-- `op_hours[0..7]` (R38) -/
  opHours : Vector Word 8
  /-- the KM view (R39) -/
  km : KmView
  /-- the input ports of the coming step (R21) -/
  ports : Ports
  /-- the parameter `WDOG_REARM` (R9), never written (log entry 6) -/
  wdogRearm : Bool
  /-- the model's own: the environment's later moves, one per step boundary (log entry 2) -/
  env : List EnvMove
  /-- the model's own: how many RESET operations have run; selects the free values of `buf` (log entry 5) -/
  resets : Nat
deriving DecidableEq, Repr

/-- Why the machine stops with a fault. The block's own Error is not one of these: it is a next state (R230). -/
inductive Fault where
  /-- An access to a buffer index outside 0 to 254, which does not exist (R50). Raised by the storing operations when
  `write_idx` is 255 and by the block checks of a header that announces more than the buffer holds. Safe: R51 and R238
  say that no run reaches such a state (log entry 7). -/
  | bufferIndex
deriving DecidableEq, Repr

/-- Why the machine has no answer. -/
inductive Refusal where
  /-- An operation that has no meaning in the model, by its mnemonic. Raised by no arm of `exec`. Safe. -/
  | notModelled (mnemonic : String)
deriving DecidableEq, Repr

/-- What an operation answers. -/
abbrev Result := Host.Outcome State Fault Refusal

/-- The block right after a RESET step with the given `cfg_protocol` and `now_ms` (R42), with its input ports, its
parameter, the environment's moves and the number of RESET operations so far. -/
def State.afterReset (ports : Ports) (wdogRearm : Bool) (env : List EnvMove) (resets : Nat) : State where
  protocol := Protocol.ofCode ports.cfgProtocol
  phase := .sync
  writeIdx := 0
  lastProgressMs := ports.nowMs
  buf := []
  header := Header.zero
  ready := false
  busOk := true
  temp := Vector.replicate 32 0
  pump := Vector.replicate 32 0
  relay := Vector.replicate 32 false
  tempNum := 0
  pumpNum := 0
  relayNum := 0
  errorMask := 0
  systemTimeMinutes := 0
  heatQuantityWh := 0
  systemVariant := 0
  opHours := Vector.replicate 8 0
  km := KmView.zero
  ports := ports
  wdogRearm := wdogRearm
  env := env
  resets := resets

/-- The machine right after reset (R42, R261): the RESET step had `cfg_protocol = 0` (VBUS) and `now_ms = 0`, and from
now on `rst = 0`, nothing is pending, and the environment makes no move. DESIGN CHOICE for these inputs (log entry 3);
`WDOG_REARM` is R9's default. -/
def State.reset : State :=
  State.afterReset ⟨false, 0, 0, []⟩ true [] 0

end Sys2Proof.Machine
end

