-- ==== Sys2Proof/Machine/Ops.lean ====
section
/-! DEFINITION. The named operations over the frame buffer and the registers that the meanings share: reading and
writing one octet (00_scope.md R14), consuming an octet (R17, 10_state.md R22), storing it (R27), raising an Error and
returning from it (60_exceptions.md R230, R240), the frame around every Decode operation (44_decode_vbus.md R180). -/

namespace Sys2Proof.Machine

/-! ### The frame buffer -/

/-- The octet stored at index `a`, if one has been stored since the last RESET. -/
def FrameBuffer.read? : FrameBuffer → Nat → Option Byte
  | [], _ => none
  | (k, v) :: m, a => if k = a then some v else FrameBuffer.read? m a

/-- Store `v` at index `a`, keeping the indices strictly rising. -/
def FrameBuffer.write : FrameBuffer → Nat → Byte → FrameBuffer
  | [], a, v => [(a, v)]
  | (k, w) :: m, a, v =>
    if a < k then (a, v) :: (k, w) :: m
    else if k = a then (a, v) :: m
    else (k, w) :: FrameBuffer.write m a v

/-- `buf[a]` (R14): the stored octet, or the free value of an index nothing has stored to since the last RESET (R42). -/
def State.octet (s : State) (a : Nat) : Byte :=
  (s.buf.read? a).getD (Config.unspecifiedOctet s.resets a)

/-- `buf[a] <- v` (R14), for an index below 255. -/
def State.setOctet (s : State) (a : Nat) (v : Byte) : State :=
  { s with buf := s.buf.write a v }

/-! ### The watchdog condition and the byte source -/

/-- `wdog_due` (R22, R242): the elapsed milliseconds modulo 2^32 exceed 20000, strictly. -/
def State.wdogDue (s : State) : Bool :=
  decide (Config.wdogMs < (s.ports.nowMs - s.lastProgressMs).toNat)

/-- `rx_valid` (R21, R22). -/
def State.rxValid (s : State) : Bool :=
  !s.ports.rxPending.isEmpty

/-- `rx_data` (R21). Meaningful only when `rx_valid = 1`; no rule reads it otherwise (log entry 13). -/
def State.rxData (s : State) : Byte :=
  s.ports.rxPending.headD 0

/-- `rx_ready` (R22). -/
def State.rxReady (s : State) : Bool :=
  !s.ports.rst && (s.phase == .sync || s.phase == .receive) && !s.wdogDue

/-- Consume the presented octet: the byte source then presents the next one (R17). -/
def State.consume (s : State) : State :=
  { s with ports := { s.ports with rxPending := s.ports.rxPending.tail } }

/-! ### Storing -/

/-- `buf[write_idx] <- b; write_idx <- write_idx + 1` (R27). -/
def State.storeOctet (s : State) (b : Byte) : State :=
  { s.setOctet s.writeIdx.toNat b with writeIdx := s.writeIdx + 1 }

/-- Consume the octet `b`, store it at `buf[write_idx]`, then do `k`. With `write_idx = 255` there is no such index
(R50; R27 says no operation stores then). -/
def State.storing (s : State) (b : Byte) (k : State → State) : Result :=
  if s.writeIdx.toNat < Config.bufSize then .next (k (s.consume.storeOctet b)) else .fault .bufferIndex

/-- A SYNC operation that stores the sync octet at index 0 (R104, R105, R106). -/
def State.startFrame (s : State) (b : Byte) : State :=
  { s.setOctet 0 b with writeIdx := 1, phase := .receive }

/-- The store of a full buffer (R130, R144, R148, R168): `buf[254] <- b; write_idx <- 255`. -/
def State.storeLast (s : State) (b : Byte) : State :=
  { s.setOctet 254 b with writeIdx := 255 }

/-! ### Errors: entry and return -/

/-- `raise Error(cause)` (R15, R230): `state <- ERROR` and nothing else. The cause is a name for the reader; nothing
stores it (R231). -/
def State.raiseError (s : State) (_cause : Cause) : State :=
  { s with phase := .error }

/-- The return from an Error (R240): the flags and the index are cleared and the block is back in SYNC. -/
def State.leaveError (s : State) : State :=
  { s with busOk := false, ready := false, writeIdx := 0, phase := .sync }

/-! ### The Decode frame -/

/-- The entry actions of every Decode operation (R180): feed the watchdog, `bus_ok <- 1`. -/
def State.enterDecode (s : State) : State :=
  { s with lastProgressMs := s.ports.nowMs, busOk := true }

/-- The way back to SYNC of every Decode operation (R180). -/
def State.leaveDecode (s : State) : State :=
  { s with phase := .sync, writeIdx := 0 }

/-- The Decode frame around an extractor (R180, R181): all of it is one step. -/
def State.decoding (s : State) (extract : State → State) : State :=
  State.leaveDecode { extract s.enterDecode with ready := true }

/-! ### Snapshot registers -/

/-- `T[i] <- v` (R33). -/
def State.setTemp (s : State) (i : Fin 32) (v : Half) : State :=
  { s with temp := s.temp.set i.val v i.isLt }

/-- `P[i] <- v` (R34). -/
def State.setPump (s : State) (i : Fin 32) (v : Byte) : State :=
  { s with pump := s.pump.set i.val v i.isLt }

/-- `R[i] <- v` (R35). -/
def State.setRelay (s : State) (i : Fin 32) (v : Bool) : State :=
  { s with relay := s.relay.set i.val v i.isLt }

/-- `op_hours[i] <- v` (R38). -/
def State.setOpHours (s : State) (i : Fin 8) (v : Word) : State :=
  { s with opHours := s.opHours.set i.val v i.isLt }

/-- The three counts (R36, R187). -/
def State.setCounts (s : State) (temps pumps relays : BitVec 8) : State :=
  { s with tempNum := temps, pumpNum := pumps, relayNum := relays }

/-! ### The environment -/

/-- The ports after the environment's move. -/
def EnvMove.apply (e : EnvMove) (p : Ports) : Ports where
  rst := e.rst
  cfgProtocol := e.cfgProtocol
  nowMs := e.nowMs
  rxPending :=
    match e.source with
    | .arrive octets => p.rxPending ++ octets
    | .replace octets => octets

/-- The step boundary: the environment makes its next move; with none left the ports hold their values (log entry 2). -/
def State.boundary (s : State) : State :=
  match s.env with
  | [] => s
  | e :: rest => { s with ports := e.apply s.ports, env := rest }

end Sys2Proof.Machine
end

