-- ==== Sys2Proof/Machine/Operands.lean ====
section
/-! DEFINITION. The operand forms: how octets of the frame buffer become register values (00_scope.md R16,
30_encoding.md R80), the septet decoder (44_decode_vbus.md R182), the block guard (R184), and the shared forms of the
VBUS extractors (R188). -/

namespace Sys2Proof.Machine

/-! ### Multi-octet fields, over any reader of the buffer -/

/-- `LE16(a)` (R16). -/
def le16 (rd : Nat → Byte) (a : Nat) : Half := rd (a + 1) ++ rd a

/-- `BE16(a)` (R16). -/
def be16 (rd : Nat → Byte) (a : Nat) : Half := rd a ++ rd (a + 1)

/-- A VBUS pump: `buf[a] & 0x7F` (R80, R188). -/
def pumpField (rd : Nat → Byte) (a : Nat) : Byte := rd a &&& 0x7F

/-- VBUS operating hours: `zext_32(LE16(a))` (R80). -/
def hoursField (rd : Nat → Byte) (a : Nat) : Word := (le16 rd a).setWidth 32

/-- The decoded octet of record offset `k` of a KM status record: `d(k) = buf[4 + k] ^ 0xAA` (R214). -/
def kmDecoded (rd : Nat → Byte) (k : Nat) : Byte := rd (4 + k) ^^^ Config.kmXor

/-- A KM temperature: `5 * d(k)`, unsigned, in tenths of a degree (R216). -/
def kmTemp (rd : Nat → Byte) (k : Nat) : Half := 5 * (kmDecoded rd k).setWidth 16

/-! ### The VBUS header -/

/-- The header registers as the header decode writes them (R123, R29): indices 0 to 8 only, `frame_len` in 10 bits. -/
def headerOf (rd : Nat → Byte) : Header where
  dstAddr := le16 rd 0
  srcAddr := le16 rd 2
  protoVer := (rd 4 >>> 4).setWidth 4
  cmd := le16 rd 5
  frameCnt := rd 7
  frameLen := 10 + 6 * (rd 7).setWidth 10

/-- `decodeHeader()` (R123). -/
def State.decodeHeader (s : State) : State :=
  { s with header := headerOf s.octet }

/-! ### The septet decoder -/

/-- The first `len` rounds of `septetInject` with septet `septet` (R182). -/
def State.injectBits (s : State) (septet : Byte) (off : Nat) : Nat → State
  | 0 => s
  | i + 1 =>
    let t := s.injectBits septet off i
    if septet.getLsbD i then t.setOctet (off + i) (t.octet (off + i) ||| 0x80) else t

/-- `septetInject(buf, offset, len)` (R182): put back bit 7 of the `len` data octets before the septet. -/
def State.septetInject (s : State) (off len : Nat) : State :=
  s.injectBits (s.octet (off + len)) off len

/-! ### Block forms of the VBUS extractors -/

/-- `present(o)` (R184): the block at offset `o` lies inside the validated frame. -/
def State.present (s : State) (o : Nat) : Bool :=
  decide ((o - 9) / 6 < s.header.frameCnt.toNat)

/-- Inject the septet of the block at `o`, then `k`; nothing at all if the block is not present (R184). -/
def State.withBlock (s : State) (o : Nat) (k : State → State) : State :=
  if s.present o then k (s.septetInject o 4) else s

/-- `TEMP2(o, i)` (R188) with `lo = i` and `hi = i + 1`. -/
def State.temp2 (s : State) (o : Nat) (lo hi : Fin 32) : State :=
  s.withBlock o fun t => (t.setTemp lo (le16 t.octet o)).setTemp hi (le16 t.octet (o + 2))

/-- The loop of `PUMPS` (R188): pump and relay registers `dests`, from the data octets at `a`, `a + 1`, ... -/
def State.pumpLoop (on : Byte → Bool) : State → Nat → List (Fin 32) → State
  | s, _, [] => s
  | s, a, i :: dests =>
    let v := pumpField s.octet a
    State.pumpLoop on ((s.setPump i v).setRelay i (on v)) (a + 1) dests

/-- `PUMPS(o, first, count, on)` (R188) with `dests = [first, ..., first + count - 1]`. -/
def State.pumps (s : State) (o : Nat) (dests : List (Fin 32)) (on : Byte → Bool) : State :=
  s.withBlock o fun t => State.pumpLoop on t o dests

/-- The operating-hours block of BX and MX (R190, R191). -/
def State.hoursBlock (s : State) (o : Nat) : State :=
  s.withBlock o fun t =>
    (t.setOpHours 0 (hoursField t.octet o)).setOpHours 1 (hoursField t.octet (o + 2))

/-- The heat-quantity block of BX and MX (R190, R191). -/
def State.heatBlock (s : State) (o : Nat) : State :=
  s.withBlock o fun t => { t with heatQuantityWh := le16 t.octet o }

/-- The block of the Vitosolic's error mask and system time (R189). -/
def State.maskAndTimeBlock (s : State) (o : Nat) : State :=
  s.withBlock o fun t => { t with errorMask := le16 t.octet o, systemTimeMinutes := le16 t.octet (o + 2) }

/-- The block of the Vitosolic's system variant (R189). -/
def State.variantBlock (s : State) (o : Nat) : State :=
  s.withBlock o fun t => { t with systemVariant := t.octet o }

/-- The block of the MX's error mask (R191). -/
def State.maskBlock (s : State) (o : Nat) : State :=
  s.withBlock o fun t => { t with errorMask := le16 t.octet o }

/-- The Vitosolic predicate of a relay: the pump runs at 100 (R189). -/
def onAtHundred (v : Byte) : Bool := v == 100

/-- The predicate of a relay of BX and MX: the pump runs at all (R190, R191). -/
def onAboveZero (v : Byte) : Bool := v != 0

/-! ### The placeholder extractor of KW and P300 -/

/-- `nt` of `KWP_EXTRACT(start)` (R210): whole 16-bit words between `start` and the checksum octet, at most four. -/
def kwpCount (len : Byte) (start : Nat) : Nat := min 4 ((len.toNat + 2 - start) / 2)

/-- The temperatures of `KWP_EXTRACT` (R210): the first `nt` of `T[0..3]`. -/
def State.kwpTemps (s : State) (start : Nat) : Nat → State
  | 0 => s
  | i + 1 =>
    let t := s.kwpTemps start i
    t.setTemp (Fin.ofNat 32 i) (be16 t.octet (start + 2 * i))

/-- `KWP_EXTRACT(start)` (R210). -/
def State.kwpExtract (s : State) (start : Nat) : State :=
  let nt := kwpCount (s.octet 1) start
  let t := s.kwpTemps start nt
  { t with
    pump := Vector.replicate 32 0
    relay := Vector.replicate 32 false
    tempNum := BitVec.ofNat 8 nt
    pumpNum := 0
    relayNum := 0 }

/-! ### The KM status record -/

/-- The KM view after a status record (R219); `km_mode` changes only when the gate octet is 0xAA as received (R217). -/
def kmViewOf (rd : Nat → Byte) (old : KmView) : KmView where
  burner := (kmDecoded rd 4).getLsbD 2
  boiler := kmTemp rd 6
  hotWater := kmTemp rd 7
  setpoint := kmTemp rd 8
  outdoor := kmTemp rd 10
  mainPump := (kmDecoded rd 11).getLsbD 7
  loopPump := (kmDecoded rd 11).getLsbD 6
  departure := kmTemp rd 12
  mode := if rd 17 = 0xAA then kmDecoded rd 14 else old.mode

/-- A KM pump in the generic array: 100 when it runs, else 0 (R219). -/
def kmPump (on : Bool) : Byte := if on then 100 else 0

/-- The mirror of the KM view into the generic arrays and the three counts (R219). -/
def State.kmMirror (s : State) : State :=
  ((((((((s.setTemp 0 s.km.boiler).setTemp 1 s.km.hotWater).setTemp 2 s.km.outdoor).setTemp 3 s.km.setpoint).setTemp 4
    s.km.departure).setPump 0 (kmPump s.km.mainPump)).setPump 1 (kmPump s.km.loopPump)).setRelay 0
    s.km.burner).setCounts 5 2 1

/-- The extractor of a KM status record (R219). -/
def State.kmExtract (s : State) : State :=
  State.kmMirror { s with km := kmViewOf s.octet s.km }

end Sys2Proof.Machine
end

