-- ==== Sys2Proof/Machine/Flags.lean ====
section
/-! DEFINITION. The integrity checks, whose verdicts select the END operations and so drive the flags `ready` and
`bus_ok`: the VBUS additive CRC (41_vbus_receive.md R120), XOR and 8-bit sum (00_scope.md R16), the reflected CRC-16 of
KM-Bus (43_kmbus_receive.md R160). Each is a pure function of a reader of the buffer. -/

namespace Sys2Proof.Machine

/-! ### VBUS -/

/-- `calcCRC(buf, off, len)` (R120): start at 0x7F, subtract each octet, keep 7 bits. -/
def calcCrc (rd : Nat → Byte) (off : Nat) : Nat → BitVec 7
  | 0 => Config.vbusCrcInit
  | n + 1 => calcCrc rd off n - (rd (off + n)).setWidth 7

/-- `blocksOK()` (R128): every block's CRC is 0; block `i` stands at `9 + 6 * i`. -/
def blocksOk (rd : Nat → Byte) : Nat → Bool
  | 0 => true
  | k + 1 => blocksOk rd k && (calcCrc rd (9 + 6 * k) 6 == 0)

/-! ### KW and P300 -/

/-- `XOR_RANGE(a, n)` (R16). -/
def xorRange (rd : Nat → Byte) (a : Nat) : Nat → Byte
  | 0 => 0
  | n + 1 => xorRange rd a n ^^^ rd (a + n)

/-- `SUM8_RANGE(a, n)` (R16): the sum modulo 256. -/
def sum8Range (rd : Nat → Byte) (a : Nat) : Nat → Byte
  | 0 => 0
  | n + 1 => sum8Range rd a n + rd (a + n)

/-! ### KM-Bus -/

/-- `refl8(b)` (R16). -/
def refl8 (b : Byte) : Byte := b.reverse

/-- `refl16(v)` (R16). -/
def refl16 (v : Half) : Half := v.reverse

/-- One shift of the CRC register (R160). -/
def crcShift (crc : Half) : Half :=
  if crc.msb then (crc <<< 1) ^^^ Config.kmCrcPoly else crc <<< 1

/-- `k` shifts of the CRC register. -/
def crcShifts : Nat → Half → Half
  | 0, crc => crc
  | k + 1, crc => crcShifts k (crcShift crc)

/-- One octet into the CRC register: reflected, then eight shifts (R160). -/
def crcOctet (crc : Half) (x : Byte) : Half :=
  crcShifts 8 (crc ^^^ ((refl8 x).setWidth 16 <<< 8))

/-- The CRC register after `len` octets from `off` (R160). -/
def crcRegister (rd : Nat → Byte) (off : Nat) : Nat → Half
  | 0 => Config.kmCrcInit
  | n + 1 => crcOctet (crcRegister rd off n) (rd (off + n))

/-- `crc16km(off, len)` (R160): the register, reflected; no final XOR. -/
def crc16km (rd : Nat → Byte) (off len : Nat) : Half := refl16 (crcRegister rd off len)

/-! ### The integrity check of a complete frame, per protocol

`rd` reads the buffer with the octet `b` of this step in place, `n` is the length with it. -/

/-- KW: `XOR_RANGE(0, n - 1) = b` (R142). -/
def kwIntact (rd : Nat → Byte) (n : Nat) (b : Byte) : Bool := xorRange rd 0 (n - 1) == b

/-- P300: `SUM8_RANGE(0, n - 1) = b` (R146). -/
def p300Intact (rd : Nat → Byte) (n : Nat) (b : Byte) : Bool := sum8Range rd 0 (n - 1) == b

/-- KM: the stop octet and the CRC, low octet first (R166). -/
def kmIntact (rd : Nat → Byte) (n : Nat) (b : Byte) : Bool :=
  b == Config.kmStop && crc16km rd 4 (rd 1).toNat == le16 rd (n - 3)

end Sys2Proof.Machine
end

