-- ==== Sys2Proof/Machine/KmReceive.lean ====
section
/-! DEFINITION. The KM-Bus RECEIVE operations (43_kmbus_receive.md R163 to R168). Each consumes one octet. -/

namespace Sys2Proof.Machine

/-- MRX.STORE (R163). -/
def execMrxStore (b : Byte) (s : State) : Result :=
  s.storing b id

/-- The fourth octet of a KM frame: `buf[3] <- b; write_idx <- 4` (R164, R165). -/
def State.storeFourth (s : State) (b : Byte) : State :=
  { s.setOctet 3 b with writeIdx := 4 }

/-- MRX.HDR.OK (R164). -/
def execMrxHdrOk (b : Byte) (s : State) : Result :=
  .next (s.consume.storeFourth b)

/-- MRX.HDR.ERR (R165). -/
def execMrxHdrErr (b : Byte) (s : State) : Result :=
  .next ((s.consume.storeFourth b).raiseError .kmHeader)

/-- MRX.END.OK (R166). -/
def execMrxEndOk (b : Byte) (s : State) : Result :=
  s.storing b fun t => { t with phase := .decode }

/-- MRX.END.ERR (R167). -/
def execMrxEndErr (b : Byte) (s : State) : Result :=
  s.storing b fun t => t.raiseError .kmStopOrCrc

/-- MRX.OVF (R168). -/
def execMrxOvf (b : Byte) (s : State) : Result :=
  .next ((s.consume.storeLast b).raiseError .overflow)

end Sys2Proof.Machine
end

