-- ==== Sys2Proof/Machine/KwReceive.lean ====
section
/-! DEFINITION. The KW-Bus RECEIVE operations (42_kw_p300_receive.md R141 to R144). Each consumes one octet. -/

namespace Sys2Proof.Machine

/-- KRX.STORE (R141). -/
def execKrxStore (b : Byte) (s : State) : Result :=
  s.storing b id

/-- KRX.END.OK (R142). -/
def execKrxEndOk (b : Byte) (s : State) : Result :=
  s.storing b fun t => { t with phase := .decode }

/-- KRX.END.ERR (R143). -/
def execKrxEndErr (b : Byte) (s : State) : Result :=
  s.storing b fun t => t.raiseError .kwXor

/-- KRX.OVF (R144). -/
def execKrxOvf (b : Byte) (s : State) : Result :=
  .next ((s.consume.storeLast b).raiseError .overflow)

end Sys2Proof.Machine
end

