-- ==== Sys2Proof/Machine/OtherDecode.lean ====
section
/-! DEFINITION. The Decode operations of KW-Bus, P300 and KM-Bus (45_decode_kw_p300_km.md R211, R212, R219, R220).
None consumes an octet. -/

namespace Sys2Proof.Machine

/-- DEC.KW (R211). -/
def execDecKw (s : State) : Result :=
  .next (s.decoding fun t => t.kwpExtract 3)

/-- DEC.P300 (R212). -/
def execDecP300 (s : State) : Result :=
  .next (s.decoding fun t => t.kwpExtract 5)

/-- DEC.KM.STATUS (R219). -/
def execDecKmStatus (s : State) : Result :=
  .next (s.decoding State.kmExtract)

/-- DEC.KM.OTHER (R220): the Decode frame with an empty extractor. -/
def execDecKmOther (s : State) : Result :=
  .next (s.decoding id)

end Sys2Proof.Machine
end

