-- ==== Sys2Proof/Machine/P300Receive.lean ====
section
/-! DEFINITION. The P300 RECEIVE operations (42_kw_p300_receive.md R145 to R148). Each consumes one octet. -/

namespace Sys2Proof.Machine

/-- PRX.STORE (R145). -/
def execPrxStore (b : Byte) (s : State) : Result :=
  s.storing b id

/-- PRX.END.OK (R146). -/
def execPrxEndOk (b : Byte) (s : State) : Result :=
  s.storing b fun t => { t with phase := .decode }

/-- PRX.END.ERR (R147). -/
def execPrxEndErr (b : Byte) (s : State) : Result :=
  s.storing b fun t => t.raiseError .p300Sum

/-- PRX.OVF (R148). -/
def execPrxOvf (b : Byte) (s : State) : Result :=
  .next ((s.consume.storeLast b).raiseError .overflow)

end Sys2Proof.Machine
end

