-- ==== Sys2Proof/Machine/Sync.lean ====
section
/-! DEFINITION. The SYNC operations (40_system_sync.md R102 to R106). Each consumes one octet. -/

namespace Sys2Proof.Machine

/-- SYNC.SKIP (R102): the octet is consumed and discarded. -/
def execSyncSkip (_b : Byte) (s : State) : Result :=
  .next s.consume

/-- SYNC.VBUS (R103): the sync octet is not stored; the header scratch is cleared. -/
def execSyncVbus (_b : Byte) (s : State) : Result :=
  .next { s.consume with header := Header.zero, writeIdx := 0, phase := .receive }

/-- SYNC.KW (R104). -/
def execSyncKw (b : Byte) (s : State) : Result :=
  .next (s.consume.startFrame b)

/-- SYNC.P300 (R105): whichever of the two sync values arrived is stored. -/
def execSyncP300 (b : Byte) (s : State) : Result :=
  .next (s.consume.startFrame b)

/-- SYNC.KM (R106). -/
def execSyncKm (b : Byte) (s : State) : Result :=
  .next (s.consume.startFrame b)

end Sys2Proof.Machine
end

