-- ==== Sys2Proof/Machine/System.lean ====
section
/-! DEFINITION. The system operations RESET, ERR, WDOG and IDLE (40_system_sync.md, 60_exceptions.md). -/

namespace Sys2Proof.Machine

/-- RESET (R100). `buf` becomes unspecified: nothing is listed any more and a fresh set of free values stands behind it
(R42, log entries 4 and 5). Consumes no octet. -/
def execReset (s : State) : Result :=
  .next (State.afterReset s.ports s.wdogRearm s.env (s.resets + 1))

/-- ERR (R240). -/
def execErr (s : State) : Result :=
  .next s.leaveError

/-- WDOG (R243): re-arm if `WDOG_REARM`, then raise E_WATCHDOG. Consumes no octet. -/
def execWdog (s : State) : Result :=
  let t := if s.wdogRearm then { s with lastProgressMs := s.ports.nowMs } else s
  .next (t.raiseError .watchdog)

/-- IDLE (R101): no state element changes. -/
def execIdle (s : State) : Result :=
  .next s

end Sys2Proof.Machine
end

