-- ==== Sys2Proof/Machine/VbusDecode.lean ====
section
/-! DEFINITION. The VBUS Decode operations (44_decode_vbus.md R186, R189 to R192). None consumes an octet. -/

namespace Sys2Proof.Machine

/-- DEC.VBUS.DROP (R186): the entry actions happen, `ready` and all data stay. -/
def execDecVbusDrop (s : State) : Result :=
  .next s.enterDecode.leaveDecode

/-- The extractor of the Vitosolic 200 (R189). -/
def State.extractVitosolic (s : State) : State :=
  let s1 := ((((((s.temp2 9 0 1).temp2 15 2 3).temp2 21 4 5).temp2 27 6 7).temp2 33 8 9).temp2 39 10 11)
  let s2 := (s1.pumps 75 [0, 1, 2, 3] onAtHundred).pumps 81 [4, 5, 6] onAtHundred
  ((s2.maskAndTimeBlock 87).variantBlock 93).setCounts 12 7 7

/-- DEC.VBUS.VITOSOLIC (R189). -/
def execDecVbusVitosolic (s : State) : Result :=
  .next (s.decoding State.extractVitosolic)

/-- The extractor of the DeltaSol BX (R190). -/
def State.extractBx (s : State) : State :=
  let s1 := ((s.temp2 9 0 1).temp2 15 2 3).temp2 21 4 5
  let s2 := s1.pumps 33 [0, 1] onAboveZero
  ((s2.hoursBlock 39).heatBlock 45).setCounts 6 2 2

/-- DEC.VBUS.BX (R190). -/
def execDecVbusBx (s : State) : Result :=
  .next (s.decoding State.extractBx)

/-- The extractor of the DeltaSol MX (R191). -/
def State.extractMx (s : State) : State :=
  let s1 := (s.temp2 9 0 1).temp2 15 2 3
  let s2 := s1.pumps 21 [0, 1, 2, 3] onAboveZero
  (((s2.hoursBlock 27).heatBlock 33).maskBlock 39).setCounts 4 4 4

/-- DEC.VBUS.MX (R191). -/
def execDecVbusMx (s : State) : Result :=
  .next (s.decoding State.extractMx)

/-- The generic extractor (R192). -/
def State.extractGeneric (s : State) : State :=
  ((s.temp2 9 0 1).temp2 15 2 3).setCounts 4 0 0

/-- DEC.VBUS.GENERIC (R192). -/
def execDecVbusGeneric (s : State) : Result :=
  .next (s.decoding State.extractGeneric)

end Sys2Proof.Machine
end

