-- ==== Sys2Proof/Machine/VbusReceive.lean ====
section
/-! DEFINITION. The VBUS RECEIVE operations (41_vbus_receive.md R122 to R130). Each consumes one octet. -/

namespace Sys2Proof.Machine

/-- VRX.MSB (R122): the octet is consumed and not stored. -/
def execVrxMsb (_b : Byte) (s : State) : Result :=
  .next (s.consume.raiseError .vbusMsb)

/-- VRX.HDR.DISCARD (R124): the header is decoded, then the frame is dropped without an Error. -/
def execVrxHdrDiscard (b : Byte) (s : State) : Result :=
  s.storing b fun t => { t.decodeHeader with phase := .sync, writeIdx := 0 }

/-- VRX.HDR.CRCERR (R125). -/
def execVrxHdrCrcerr (b : Byte) (s : State) : Result :=
  s.storing b fun t => State.raiseError { t.decodeHeader with writeIdx := 11 } .vbusHdrCrc

/-- VRX.HDR.OK (R126). -/
def execVrxHdrOk (b : Byte) (s : State) : Result :=
  s.storing b fun t => { t.decodeHeader with writeIdx := 11 }

/-- VRX.STORE (R127). -/
def execVrxStore (b : Byte) (s : State) : Result :=
  s.storing b id

/-- The block checks of a completed VBUS frame read `buf[9 .. 8 + 6 * frame_cnt]` (20_memory.md R58); that range must
lie inside the buffer (R50). -/
def State.blocksInside (s : State) : Bool :=
  decide (9 + 6 * s.header.frameCnt.toNat ≤ Config.bufSize)

/-- VRX.END.OK (R128). -/
def execVrxEndOk (b : Byte) (s : State) : Result :=
  if s.blocksInside then s.storing b fun t => { t with phase := .decode } else .fault .bufferIndex

/-- VRX.END.CRCERR (R129). -/
def execVrxEndCrcerr (b : Byte) (s : State) : Result :=
  if s.blocksInside then s.storing b fun t => t.raiseError .vbusBlockCrc else .fault .bufferIndex

/-- VRX.OVF (R130). -/
def execVrxOvf (b : Byte) (s : State) : Result :=
  .next ((s.consume.storeLast b).raiseError .overflow)

end Sys2Proof.Machine
end

