-- ==== Sys2Proof/Machine/Dispatch.lean ====
section
/-! DEFINITION. The dispatch: one arm per operation of 30_encoding.md R81, each one call of its meaning. -/

namespace Sys2Proof.Machine

def exec (i : Instr) (s : State) : Host.Outcome State Fault Refusal :=
  match i with
  | .reset => Sys2Proof.Machine.execReset s
  | .err => Sys2Proof.Machine.execErr s
  | .wdog => Sys2Proof.Machine.execWdog s
  | .idle => Sys2Proof.Machine.execIdle s
  | .syncSkip b => Sys2Proof.Machine.execSyncSkip b s
  | .syncVbus b => Sys2Proof.Machine.execSyncVbus b s
  | .syncKw b => Sys2Proof.Machine.execSyncKw b s
  | .syncP300 b => Sys2Proof.Machine.execSyncP300 b s
  | .syncKm b => Sys2Proof.Machine.execSyncKm b s
  | .vrxMsb b => Sys2Proof.Machine.execVrxMsb b s
  | .vrxHdrDiscard b => Sys2Proof.Machine.execVrxHdrDiscard b s
  | .vrxHdrCrcerr b => Sys2Proof.Machine.execVrxHdrCrcerr b s
  | .vrxHdrOk b => Sys2Proof.Machine.execVrxHdrOk b s
  | .vrxStore b => Sys2Proof.Machine.execVrxStore b s
  | .vrxEndOk b => Sys2Proof.Machine.execVrxEndOk b s
  | .vrxEndCrcerr b => Sys2Proof.Machine.execVrxEndCrcerr b s
  | .vrxOvf b => Sys2Proof.Machine.execVrxOvf b s
  | .krxStore b => Sys2Proof.Machine.execKrxStore b s
  | .krxEndOk b => Sys2Proof.Machine.execKrxEndOk b s
  | .krxEndErr b => Sys2Proof.Machine.execKrxEndErr b s
  | .krxOvf b => Sys2Proof.Machine.execKrxOvf b s
  | .prxStore b => Sys2Proof.Machine.execPrxStore b s
  | .prxEndOk b => Sys2Proof.Machine.execPrxEndOk b s
  | .prxEndErr b => Sys2Proof.Machine.execPrxEndErr b s
  | .prxOvf b => Sys2Proof.Machine.execPrxOvf b s
  | .mrxStore b => Sys2Proof.Machine.execMrxStore b s
  | .mrxHdrOk b => Sys2Proof.Machine.execMrxHdrOk b s
  | .mrxHdrErr b => Sys2Proof.Machine.execMrxHdrErr b s
  | .mrxEndOk b => Sys2Proof.Machine.execMrxEndOk b s
  | .mrxEndErr b => Sys2Proof.Machine.execMrxEndErr b s
  | .mrxOvf b => Sys2Proof.Machine.execMrxOvf b s
  | .decVbusDrop => Sys2Proof.Machine.execDecVbusDrop s
  | .decVbusVitosolic => Sys2Proof.Machine.execDecVbusVitosolic s
  | .decVbusBx => Sys2Proof.Machine.execDecVbusBx s
  | .decVbusMx => Sys2Proof.Machine.execDecVbusMx s
  | .decVbusGeneric => Sys2Proof.Machine.execDecVbusGeneric s
  | .decKw => Sys2Proof.Machine.execDecKw s
  | .decP300 => Sys2Proof.Machine.execDecP300 s
  | .decKmStatus => Sys2Proof.Machine.execDecKmStatus s
  | .decKmOther => Sys2Proof.Machine.execDecKmOther s

end Sys2Proof.Machine
end

