-- ==== Sys2Proof/WellFormed.lean ====
section
/-! DEFINITION. Which event octets an operation admits: the match and mask on `rx_data` of spec/opcode_table.json
(30_encoding.md R81, last paragraph). Every other selection condition is about the state, not the operation's word. -/

namespace Sys2Proof

/-- An octet `x` fits a row when `x & mask = match` (R81). -/
def fits (octet mask value : Byte) : Bool := octet &&& mask == value

/-- An operation is well formed when its event octet fits its row of the table. SYNC.P300 has two values, `match` and
`alt_match`. -/
def Instr.wellFormed : Instr → Bool
  | .reset | .err | .wdog | .idle => true
  | .syncSkip _ => true
  | .syncVbus b => fits b 0xFF 0xAA
  | .syncKw b => fits b 0xFF 0x01
  | .syncP300 b => fits b 0xFF 0x05 || fits b 0xFF 0x01
  | .syncKm b => fits b 0xFF 0x68
  | .vrxMsb b => fits b 0x80 0x80
  | .vrxHdrDiscard b | .vrxHdrCrcerr b | .vrxHdrOk b | .vrxStore b | .vrxEndOk b | .vrxEndCrcerr b
  | .vrxOvf b => fits b 0x80 0x00
  | .krxStore _ | .krxEndOk _ | .krxEndErr _ | .krxOvf _ => true
  | .prxStore _ | .prxEndOk _ | .prxEndErr _ | .prxOvf _ => true
  | .mrxStore _ => true
  | .mrxHdrOk b => fits b 0xFF 0x68
  | .mrxHdrErr _ => true
  | .mrxEndOk b => fits b 0xFF 0x16
  | .mrxEndErr _ | .mrxOvf _ => true
  | .decVbusDrop | .decVbusVitosolic | .decVbusBx | .decVbusMx | .decVbusGeneric | .decKw | .decP300 | .decKmStatus
  | .decKmOther => true

end Sys2Proof
end

