-- ==== Sys2Proof/Decode.lean ====
section
/-! DEFINITION. What the block decodes: the situation of one step (30_encoding.md R70, R72), which selects one of the
40 operations. After it the operation word, the model's two-octet name of an operation (event octet, row number of
R81), its decoder and encoder, and the reading of the words of spec/opcode_table.json. -/

namespace Sys2Proof

/-- The frame context of R70: what the selection conditions of R81 ask of `buf` and the header registers, with the
presented octet already counted at index `write_idx` (R81, the paragraph under the table). -/
structure FrameContext where
  /-- The completion test of the active protocol (R74). -/
  complete : Bool
  /-- The integrity check of the active protocol on the complete frame (R128, R142, R146, R166). -/
  intact : Bool
  /-- VBUS: `buf[4] >> 4 = 1` (R124). -/
  versionOk : Bool
  /-- VBUS: `calcCRC(buf, 0, 9) = 0` (R125). -/
  headerCrcOk : Bool
  /-- KM: `buf[3] = 0x68` and `buf[1] = buf[2]` (R164). -/
  kmHeaderOk : Bool
  /-- VBUS: the command register (R185). -/
  cmd : Half
  /-- VBUS: the source address register (R185). -/
  srcAddr : Half
  /-- KM: the frame is a status record (R215). -/
  statusRecord : Bool
deriving DecidableEq, Repr

/-- The selector tuple of R70, all read at the start of the step. `n` is `write_idx + 1`, computed without wrap. -/
structure Selector where
  rst : Bool
  phase : Phase
  protocol : Protocol
  wdogDue : Bool
  rxValid : Bool
  rxData : Byte
  n : Nat
  context : FrameContext
deriving DecidableEq, Repr

/-- The sync values of a protocol (R73). -/
def isSyncValue (p : Protocol) (b : Byte) : Bool :=
  match p with
  | .vbus => b == Config.syncVbus
  | .kw => b == Config.syncKw
  | .p300 => b == Config.syncP300 || b == Config.syncP300Alt
  | .km => b == Config.syncKm

/-- Line 6 of R72: the SYNC family (R73). -/
def selectSync (p : Protocol) (b : Byte) : Instr :=
  if isSyncValue p b then
    match p with
    | .vbus => .syncVbus b
    | .kw => .syncKw b
    | .p300 => .syncP300 b
    | .km => .syncKm b
  else .syncSkip b

/-- The tests of VBUS RECEIVE in the order of R131. -/
def selectVbus (n : Nat) (b : Byte) (c : FrameContext) : Instr :=
  if b.msb then .vrxMsb b
  else if n = Config.vbusHdrTrigger then
    if !c.versionOk then .vrxHdrDiscard b
    else if !c.headerCrcOk then .vrxHdrCrcerr b
    else .vrxHdrOk b
  else if c.complete then
    if c.intact then .vrxEndOk b else .vrxEndCrcerr b
  else if n = Config.bufSize then .vrxOvf b
  else .vrxStore b

/-- The tests of KW RECEIVE in the order of R140. -/
def selectKw (n : Nat) (b : Byte) (c : FrameContext) : Instr :=
  if c.complete then
    if c.intact then .krxEndOk b else .krxEndErr b
  else if n = Config.bufSize then .krxOvf b
  else .krxStore b

/-- The tests of P300 RECEIVE in the order of R140. -/
def selectP300 (n : Nat) (b : Byte) (c : FrameContext) : Instr :=
  if c.complete then
    if c.intact then .prxEndOk b else .prxEndErr b
  else if n = Config.bufSize then .prxOvf b
  else .prxStore b

/-- The tests of KM RECEIVE in the order of R162. -/
def selectKm (n : Nat) (b : Byte) (c : FrameContext) : Instr :=
  if n = 4 then
    if c.kmHeaderOk then .mrxHdrOk b else .mrxHdrErr b
  else if c.complete then
    if c.intact then .mrxEndOk b else .mrxEndErr b
  else if n = Config.bufSize then .mrxOvf b
  else .mrxStore b

/-- Line 7 of R72: one RECEIVE operation, by protocol. -/
def selectReceive (p : Protocol) (n : Nat) (b : Byte) (c : FrameContext) : Instr :=
  match p with
  | .vbus => selectVbus n b c
  | .kw => selectKw n b c
  | .p300 => selectP300 n b c
  | .km => selectKm n b c

/-- Line 3 of R72: one Decode operation (R82, R185 for VBUS, R215 for KM). -/
def selectDecode (p : Protocol) (c : FrameContext) : Instr :=
  match p with
  | .vbus =>
    if c.cmd ≠ Config.vbusCmdData then .decVbusDrop
    else if c.srcAddr = 0x1060 then .decVbusVitosolic
    else if c.srcAddr = 0x7E11 ∨ c.srcAddr = 0x7E21 then .decVbusBx
    else if c.srcAddr = 0x7E31 then .decVbusMx
    else .decVbusGeneric
  | .kw => .decKw
  | .p300 => .decP300
  | .km => if c.statusRecord then .decKmStatus else .decKmOther

/-- Selection (R72): the first line that holds decides. -/
def select (σ : Selector) : Instr :=
  if σ.rst then .reset
  else
    match σ.phase with
    | .error => .err
    | .decode => selectDecode σ.protocol σ.context
    | .sync =>
      if σ.wdogDue then .wdog else if !σ.rxValid then .idle else selectSync σ.protocol σ.rxData
    | .receive =>
      if σ.wdogDue then .wdog else if !σ.rxValid then .idle
      else selectReceive σ.protocol σ.n σ.rxData σ.context

/-! ### Operation words

DESIGN CHOICE (log entry 8): the block stores no program, so an operation has no stored encoding. The model names an
operation by two octets: the event octet as on `rx_data` (0 for format NONE, R71), then the row number of R81. -/

/-- Why an operation word is rejected. -/
inductive DecodeError where
  /-- The word is not two octets long. -/
  | wrongLength
  /-- The second octet is no row number of R81. -/
  | noSuchRow
  /-- The event octet does not fit the row's match and mask, or is not 0 for a row of format NONE. -/
  | octetDoesNotFit
deriving DecidableEq, Repr

/-- The operation in row `row` of R81 with event octet `b`; for a row of format NONE the octet is not used. -/
def rowInstr (row : Nat) (b : Byte) : Option Instr :=
  match row with
  | 1 => some .reset | 2 => some .err | 3 => some .wdog | 4 => some .idle
  | 5 => some (.syncSkip b) | 6 => some (.syncVbus b) | 7 => some (.syncKw b) | 8 => some (.syncP300 b)
  | 9 => some (.syncKm b)
  | 10 => some (.vrxMsb b) | 11 => some (.vrxHdrDiscard b) | 12 => some (.vrxHdrCrcerr b)
  | 13 => some (.vrxHdrOk b) | 14 => some (.vrxStore b) | 15 => some (.vrxEndOk b)
  | 16 => some (.vrxEndCrcerr b) | 17 => some (.vrxOvf b)
  | 18 => some (.krxStore b) | 19 => some (.krxEndOk b) | 20 => some (.krxEndErr b) | 21 => some (.krxOvf b)
  | 22 => some (.prxStore b) | 23 => some (.prxEndOk b) | 24 => some (.prxEndErr b) | 25 => some (.prxOvf b)
  | 26 => some (.mrxStore b) | 27 => some (.mrxHdrOk b) | 28 => some (.mrxHdrErr b) | 29 => some (.mrxEndOk b)
  | 30 => some (.mrxEndErr b) | 31 => some (.mrxOvf b)
  | 32 => some .decVbusDrop | 33 => some .decVbusVitosolic | 34 => some .decVbusBx | 35 => some .decVbusMx
  | 36 => some .decVbusGeneric | 37 => some .decKw | 38 => some .decP300 | 39 => some .decKmStatus
  | 40 => some .decKmOther
  | _ => none

/-- The operation an operation word names, or why it names none. Total on any octets. -/
def decode (word : List Byte) : Except DecodeError Instr :=
  match word with
  | [b, r] =>
    match rowInstr r.toNat b with
    | none => .error .noSuchRow
    | some i =>
      if i.wellFormed && (i.eventOctet.isSome || b == 0) then .ok i else .error .octetDoesNotFit
  | _ => .error .wrongLength

/-- The operation word of an operation. -/
def encode (i : Instr) : List Byte :=
  [i.eventOctet.getD 0, BitVec.ofNat 8 i.number]

/-! ### The words of spec/opcode_table.json

DESIGN CHOICE (log entry 9): a table word's low octet is the event octet. The table gives rows 1 to 5 and 8 to 31 a
one-bit field `number` at the bit position of the row's number; that bit, when set, names the row. -/

/-- The row a table word names when no bit above the event octet is set: the row whose `number` bit lies inside the
octet (rows 1 to 5, words of one octet), else the row of that width whose fixed bits the octet fits. -/
def unmarkedRow (nbits octet : Nat) : Nat :=
  if nbits ≤ 8 ∧ octet = 0x02 then 1
  else if nbits ≤ 8 ∧ octet = 0x04 then 2
  else if nbits ≤ 8 ∧ octet = 0x08 then 3
  else if nbits ≤ 8 ∧ octet = 0x10 then 4
  else if nbits ≤ 8 ∧ octet = 0x20 then 5
  else if octet = 0xAA then 6
  else if octet = 0x01 then 7
  else if octet = 0x05 then 8
  else if octet = 0x68 then (if nbits ≤ 16 then 9 else 27)
  else if octet = 0x16 then 29
  else if 0x80 ≤ octet then 10
  else if nbits ≤ 8 then 5
  else if nbits ≤ 16 then 11
  else if nbits ≤ 24 then 16
  else 26

/-- The row a table word names: the set `number` bit above the event octet, or `unmarkedRow` where there is none. -/
def tableRow (nbits w : Nat) : Option Nat :=
  if 32 < nbits then none
  else if w < 256 then some (unmarkedRow nbits w)
  else (List.range' 8 24).find? (fun k => w / 256 == 2 ^ (k - 8) && decide (k < nbits))

/-- The event octet that stands in the operation word of row `row` for a table word whose low octet is `octet`: rows of
format NONE have none (R71). -/
def tableOctet (row octet : Nat) : Byte :=
  if row ≤ 4 ∨ 32 ≤ row then 0 else BitVec.ofNat 8 octet

/-- The instruction the decoder reads from a word of spec/opcode_table.json: the word is laid out as an operation word
and decoded; none where the decoder rejects it. -/
def decodeTableWord (nbits w : Nat) : Option Instr :=
  match tableRow nbits w with
  | none => none
  | some row =>
    match decode [tableOctet row (w % 256), BitVec.ofNat 8 row] with
    | .ok i => some i
    | .error _ => none

end Sys2Proof
end

