-- ==== Sys2Proof/Machine/Select.lean ====
section
/-! DEFINITION. The selector of a step, read from the state (30_encoding.md R70), and the operation it selects (R72);
and the converse: a situation in which a given operation is the one selected. -/

namespace Sys2Proof.Machine

/-- `n` of R81: `write_idx + 1`, computed without wrap. -/
def State.nextLen (s : State) : Nat := s.writeIdx.toNat + 1

/-- The buffer as the selection conditions of RECEIVE read it: the presented octet already stands at `write_idx`
(R81, the paragraph under the table). -/
def State.seen (s : State) (a : Nat) : Byte :=
  if a = s.writeIdx.toNat then s.rxData else s.octet a

/-- The completion test of the active protocol after the store (R74); all sums without wrap. -/
def State.frameComplete (s : State) : Bool :=
  match s.protocol with
  | .vbus => decide (11 < s.nextLen ∧ s.nextLen + 1 = s.header.frameLen.toNat)
  | .kw | .p300 => decide (2 ≤ s.nextLen ∧ s.nextLen = (s.seen 1).toNat + 3)
  | .km => decide (4 < s.nextLen ∧ s.nextLen = (s.seen 1).toNat + 7)

/-- The integrity check of the active protocol on the complete frame (R128, R142, R146, R166). -/
def State.frameIntact (s : State) : Bool :=
  match s.protocol with
  | .vbus => blocksOk s.seen s.header.frameCnt.toNat
  | .kw => kwIntact s.seen s.nextLen s.rxData
  | .p300 => p300Intact s.seen s.nextLen s.rxData
  | .km => kmIntact s.seen s.nextLen s.rxData

/-- The condition of DEC.KM.STATUS (R215), on the octets as received. -/
def State.kmStatusRecord (s : State) : Bool :=
  decide (15 ≤ (s.octet 1).toNat) && (s.octet 4 == 0xBF && (decide (0x1C ≤ (s.octet 7).toNat) &&
    decide ((s.octet 7).toNat ≤ 0x1F)))

/-- The frame context of the selector (R70). -/
def State.frameContext (s : State) : FrameContext where
  complete := s.frameComplete
  intact := s.frameIntact
  versionOk := (s.seen 4 >>> 4).setWidth 4 == Config.vbusVersion
  headerCrcOk := calcCrc s.seen 0 9 == 0
  kmHeaderOk := s.rxData == Config.syncKm && s.seen 1 == s.seen 2
  cmd := s.header.cmd
  srcAddr := s.header.srcAddr
  statusRecord := s.kmStatusRecord

/-- The selector tuple (R70). -/
def State.selector (s : State) : Selector where
  rst := s.ports.rst
  phase := s.phase
  protocol := s.protocol
  wdogDue := s.wdogDue
  rxValid := s.rxValid
  rxData := s.rxData
  n := s.nextLen
  context := s.frameContext

/-- The operation that the next step runs (R72). -/
def State.selected (s : State) : Instr := select s.selector

/-! ### A situation that selects a given operation

The block fetches nothing (20_memory.md R64), so putting an operation where the next step finds it means making its
selection condition true (log entry 9). Only the elements that the condition reads are set. -/

/-- The quiet situation every selection below starts from: no reset, no watchdog, and the octets `pending` presented in
front of what the byte source already holds. -/
def State.quiet (s : State) (pending : List Byte) : State :=
  { s with ports := { s.ports with rst := false, nowMs := s.lastProgressMs, rxPending := pending ++ s.ports.rxPending } }

/-- In SYNC under `p` with `b` presented. -/
def State.placeSync (s : State) (p : Protocol) (b : Byte) : State :=
  { s.quiet [b] with protocol := p, phase := .sync, writeIdx := 0 }

/-- In RECEIVE under `p` with `octets` stored as the frame so far and `b` presented. -/
def State.placeReceive (s : State) (p : Protocol) (octets : List Byte) (b : Byte) : State :=
  { s.quiet [b] with
    protocol := p
    phase := .receive
    writeIdx := BitVec.ofNat 8 octets.length
    buf := octets.zipIdx.map fun c => (c.2, c.1) }

/-- The eleventh octet `b` of a VBUS frame with version octet `version` and header CRC octet `crc`. -/
def State.placeHeader (s : State) (version crc b : Byte) : State :=
  s.placeReceive .vbus [0, 0, 0, 0, version, 0, 0, 0, crc, 0] b

/-- The last octet `b` of a VBUS frame of one block whose septet octet is `septet`. -/
def State.placeBlockEnd (s : State) (septet b : Byte) : State :=
  { s.placeReceive .vbus [0, 0, 0, 0, 0x10, 0, 0, 1, 0x6E, 0, 0, 0, 0, septet] b with
    header := ⟨0, 0, 1, 0, 1, 16⟩ }

/-- The octet `b` that fills the buffer of a frame that opened with `opening`; the octets between are not read. -/
def State.placeFull (s : State) (p : Protocol) (opening : List Byte) (b : Byte) : State :=
  { s.placeReceive p opening b with writeIdx := 254, header := Header.zero }

/-- In DECODE under `p` with the given command, source address and octets. -/
def State.placeDecode (s : State) (p : Protocol) (cmd src : Half) (octets : List Byte) : State :=
  { s.quiet [] with
    protocol := p
    phase := .decode
    writeIdx := BitVec.ofNat 8 octets.length
    header := { s.header with cmd := cmd, srcAddr := src }
    buf := octets.zipIdx.map fun c => (c.2, c.1) }

/-- The situation that selects `i` (for a well-formed `i`). -/
def State.place (s : State) (i : Instr) : State :=
  match i with
  | .reset => { s with ports := { s.ports with rst := true } }
  | .err => { s.quiet [] with phase := .error }
  | .wdog =>
    { s with phase := .sync, writeIdx := 0,
             ports := { s.ports with rst := false, nowMs := s.lastProgressMs + 20001 } }
  | .idle =>
    { s with phase := .sync, writeIdx := 0,
             ports := { s.ports with rst := false, nowMs := s.lastProgressMs, rxPending := [] } }
  | .syncSkip b => s.placeSync (if b = Config.syncVbus then .kw else .vbus) b
  | .syncVbus b => s.placeSync .vbus b
  | .syncKw b => s.placeSync .kw b
  | .syncP300 b => s.placeSync .p300 b
  | .syncKm b => s.placeSync .km b
  | .vrxMsb b => s.placeReceive .vbus [] b
  | .vrxHdrDiscard b => s.placeHeader 0x00 0x00 b
  | .vrxHdrCrcerr b => s.placeHeader 0x10 0x00 b
  | .vrxHdrOk b => s.placeHeader 0x10 0x6F b
  | .vrxStore b => s.placeReceive .vbus [] b
  | .vrxEndOk b => s.placeBlockEnd (0x7F - b) b
  | .vrxEndCrcerr b => s.placeBlockEnd (0x7E - b) b
  | .vrxOvf b => s.placeFull .vbus [] b
  | .krxStore b => s.placeReceive .kw [0x01] b
  | .krxEndOk b => s.placeReceive .kw [0x01, 0x01, b] b
  | .krxEndErr b => s.placeReceive .kw [0x01, 0x01, b ^^^ 1] b
  | .krxOvf b => s.placeFull .kw [0x01, 0xFF] b
  | .prxStore b => s.placeReceive .p300 [0x05] b
  | .prxEndOk b => s.placeReceive .p300 [0x05, 0x01, b - 6] b
  | .prxEndErr b => s.placeReceive .p300 [0x05, 0x01, b - 5] b
  | .prxOvf b => s.placeFull .p300 [0x05, 0xFF] b
  | .mrxStore b => s.placeReceive .km [0x68] b
  | .mrxHdrOk b => s.placeReceive .km [0x68, 0x00, 0x00] b
  | .mrxHdrErr b => s.placeReceive .km [0x68, 0x00, 0x01] b
  | .mrxEndOk b => s.placeReceive .km [0x68, 0x00, 0x00, 0x68, 0x00, 0x00] b
  | .mrxEndErr b => s.placeReceive .km [0x68, 0x00, 0x00, 0x68, 0x01, 0x00] b
  | .mrxOvf b => s.placeFull .km [0x68, 0xFF, 0xFF, 0x68] b
  | .decVbusDrop => s.placeDecode .vbus 0 0 []
  | .decVbusVitosolic => s.placeDecode .vbus 0x0100 0x1060 []
  | .decVbusBx => s.placeDecode .vbus 0x0100 0x7E11 []
  | .decVbusMx => s.placeDecode .vbus 0x0100 0x7E31 []
  | .decVbusGeneric => s.placeDecode .vbus 0x0100 0 []
  | .decKw => s.placeDecode .kw 0 0 [0x01, 0x00, 0x01]
  | .decP300 => s.placeDecode .p300 0 0 [0x05, 0x00, 0x05]
  | .decKmStatus => s.placeDecode .km 0 0 [0x68, 0x0F, 0x0F, 0x68, 0xBF, 0, 0, 0x1C]
  | .decKmOther => s.placeDecode .km 0 0 [0x68, 0x00, 0x00, 0x68, 0x00, 0x00, 0x16]

end Sys2Proof.Machine
end

