-- ==== Sys2Proof/Machine/Step.lean ====
section
/-! DEFINITION. One step (30_encoding.md R72): the situation selects one operation, the operation runs, and at the step
boundary the environment makes its next move. And the situation that makes the next step run the operation of a word of
spec/opcode_table.json. -/

namespace Sys2Proof.Machine

/-- One step of the block (R70, R72, D1): exactly one operation runs. -/
def step (s : State) : Host.Outcome State Fault Refusal :=
  match exec s.selected s with
  | .next t => .next t.boundary
  | .fault f => .fault f
  | .refused r => .refused r

/-- `s` in a situation that selects the operation of the table word `w` (log entry 9); `s` itself where the decoder
rejects the word. -/
def State.withFetchWord (s : State) (nbits w : Nat) : State :=
  match decodeTableWord nbits w with
  | some i => s.place i
  | none => s

end Sys2Proof.Machine
end

