-- ==== Sys2Proof/Machine/Outputs.lean ====
section
/-! DEFINITION. The output ports (10_state.md R21, R31, R43, R44): every one but `rx_ready` is a copy of a state
element, `rx_ready` is combinational (R22, `State.rxReady`). -/

namespace Sys2Proof.Machine

/-- The output ports of R21. -/
structure Outputs where
  /-- `rx_ready` -/
  rxReady : Bool
  /-- `state_o` -/
  stateO : BitVec 2
  /-- `ready` -/
  ready : Bool
  /-- `bus_ok` -/
  busOk : Bool
  /-- `protocol_o` -/
  protocolO : BitVec 2
  /-- `temp[0..31]` -/
  temp : Vector Half 32
  /-- `pump[0..31]` -/
  pump : Vector Byte 32
  /-- `relay[0..31]` -/
  relay : Vector Bool 32
  /-- `temp_num` -/
  tempNum : BitVec 8
  /-- `pump_num` -/
  pumpNum : BitVec 8
  /-- `relay_num` -/
  relayNum : BitVec 8
  /-- `error_mask` -/
  errorMask : Half
  /-- `system_time` -/
  systemTime : Half
  /-- `heat_quantity` -/
  heatQuantity : Half
  /-- `system_variant` -/
  systemVariant : Byte
  /-- `operating_hours[0..7]` -/
  operatingHours : Vector Word 8
  /-- the `km_*` ports -/
  km : KmView
  /-- `src_addr_o` -/
  srcAddrO : Half
  /-- `dst_addr_o` -/
  dstAddrO : Half
  /-- `cmd_o` -/
  cmdO : Half
  /-- `frame_cnt_o` -/
  frameCntO : BitVec 8
  /-- `proto_ver_o` -/
  protoVerO : BitVec 4
deriving DecidableEq, Repr

/-- What a snapshot reader sees at a step boundary (R43). -/
def State.outputs (s : State) : Outputs where
  rxReady := s.rxReady
  stateO := s.phase.code
  ready := s.ready
  busOk := s.busOk
  protocolO := s.protocol.code
  temp := s.temp
  pump := s.pump
  relay := s.relay
  tempNum := s.tempNum
  pumpNum := s.pumpNum
  relayNum := s.relayNum
  errorMask := s.errorMask
  systemTime := s.systemTimeMinutes
  heatQuantity := s.heatQuantityWh
  systemVariant := s.systemVariant
  operatingHours := s.opHours
  km := s.km
  srcAddrO := s.header.srcAddr
  dstAddrO := s.header.dstAddr
  cmdO := s.header.cmd
  frameCntO := s.header.frameCnt
  protoVerO := s.header.protoVer

/-- A temperature register read as the spec reads it: signed tenths of a degree (R33, R80). -/
def State.tempTenths (s : State) (i : Fin 32) : Int := (s.temp[i.val]).toInt

end Sys2Proof.Machine
end

