-- ==== Sys2Proof/Machine/Stimulus.lean ====
section
/-! DEFINITION. The stimulus notation of 30_encoding.md R84 and the frame builders of R85. A line sets the input ports
and takes steps; it never touches a state element of the block. -/

namespace Sys2Proof.Machine

/-! ### Frame builders (R85) -/

/-- A list of octets as a reader of the buffer; 0 outside. -/
def readerOf (octets : List Byte) (a : Nat) : Byte := octets.getD a 0

/-- The check octet that makes `octets` pass the VBUS CRC (R121 b). -/
def vbusCheck (octets : List Byte) : Byte :=
  (calcCrc (readerOf octets) 0 octets.length).setWidth 8

/-- One block: the data octets with bit 7 cleared, the septet, the block CRC (R76). -/
def vbusBlock (d0 d1 d2 d3 : Byte) : List Byte :=
  let septet : Byte := BitVec.ofNat 8
    (d0.msb.toNat + 2 * d1.msb.toNat + 4 * d2.msb.toNat + 8 * d3.msb.toNat)
  let body := [d0 &&& 0x7F, d1 &&& 0x7F, d2 &&& 0x7F, d3 &&& 0x7F, septet]
  body ++ [vbusCheck body]

/-- A 16-bit field, low octet first (R52). -/
def lowHigh (v : Half) : List Byte := [v.setWidth 8, (v >>> 8).setWidth 8]

/-- `VBUSFRAME dst src cmd (d0 d1 d2 d3)...` (R85). -/
def vbusFrame (dst src cmd : Half) (groups : List (Byte × Byte × Byte × Byte)) : List Byte :=
  let head := lowHigh dst ++ lowHigh src ++ [0x10] ++ lowHigh cmd ++ [BitVec.ofNat 8 groups.length]
  [Config.syncVbus] ++ head ++ [vbusCheck head] ++
    (groups.map fun g => vbusBlock g.1 g.2.1 g.2.2.1 g.2.2.2).flatten

/-- `KWFRAME payload...` (R85). -/
def kwFrame (payload : List Byte) : List Byte :=
  let body := [Config.syncKw, BitVec.ofNat 8 payload.length] ++ payload
  body ++ [xorRange (readerOf body) 0 body.length]

/-- `P300FRAME sync payload...` (R85). -/
def p300Frame (sync : Byte) (payload : List Byte) : List Byte :=
  let body := [sync, BitVec.ofNat 8 payload.length] ++ payload
  body ++ [sum8Range (readerOf body) 0 body.length]

/-- `KMFRAME C A data...` (R85), `covered` being C, A and the data. -/
def kmFrame (covered : List Byte) : List Byte :=
  let len : Byte := BitVec.ofNat 8 covered.length
  [Config.syncKm, len, len, Config.syncKm] ++ covered ++
    lowHigh (crc16km (readerOf covered) 0 covered.length) ++ [Config.kmStop]

/-! ### Stimulus lines (R84) -/

/-- A line of the stimulus notation; `EXPECT` is a claim about a state, not a line that does anything. -/
inductive StimulusLine where
  | rst (p : Protocol) (t : Word)
  | at (t : Word)
  | rx (octets : List Byte)
  | step (k : Nat)
deriving DecidableEq, Repr

/-- `k` steps of the block, stopping at a fault or a refusal. -/
def stepMany : Nat → State → Result
  | 0, s => .next s
  | k + 1, s =>
    match Sys2Proof.Machine.step s with
    | .next t => stepMany k t
    | .fault f => .fault f
    | .refused r => .refused r

/-- Step until nothing is pending and the state is SYNC or RECEIVE, at most `k` steps; the run of steps that the source
calls one `tick()` (70_reset_and_hazards.md R276). With `WDOG_REARM = false` it may never end (95_test_vectors.md program
E); the bound then ends it (log entry 15). -/
def stepUntilTaken : Nat → State → Result
  | 0, s => .next s
  | k + 1, s =>
    if s.ports.rxPending.isEmpty && (s.phase == .sync || s.phase == .receive) then .next s
    else
      match Sys2Proof.Machine.step s with
      | .next t => stepUntilTaken k t
      | .fault f => .fault f
      | .refused r => .refused r

/-- The state with `rst` released. -/
def State.releaseReset (s : State) : State := { s with ports := { s.ports with rst := false } }

/-- One line of stimulus. -/
def runLine (line : StimulusLine) (s : State) : Result :=
  match line with
  | .rst p t =>
    match Sys2Proof.Machine.step { s with ports := ⟨true, p.code, t, s.ports.rxPending⟩ } with
    | .next u => .next u.releaseReset
    | .fault f => .fault f
    | .refused r => .refused r
  | .at t => .next { s with ports := { s.ports with nowMs := t } }
  | .rx octets =>
    stepUntilTaken (2 * octets.length + 4)
      { s with ports := { s.ports with rxPending := s.ports.rxPending ++ octets } }
  | .step k => stepMany k { s with ports := { s.ports with rxPending := [] } }

/-- A stimulus script. -/
def runLines : List StimulusLine → State → Result
  | [], s => .next s
  | l :: rest, s =>
    match runLine l s with
    | .next t => runLines rest t
    | .fault f => .fault f
    | .refused r => .refused r

end Sys2Proof.Machine
end

