-- ==== Sys2Proof/Safety.lean ====
section
/-! DEFINITION. The terms in which claims about the machine are stated: what two states have in common (frames), the
selection conditions of 30_encoding.md R81 as predicates, the legal transitions of 10_state.md R26, the table of
30_encoding.md R86, the invariant of the states that runs reach, and agreement below `write_idx`. -/

namespace Sys2Proof.Machine

/-! ### Frames -/

/-- The snapshot data registers and counts are equal (R33 to R39). -/
def SameSnapshot (s t : State) : Prop :=
  t.temp = s.temp ∧ t.pump = s.pump ∧ t.relay = s.relay ∧ t.tempNum = s.tempNum ∧ t.pumpNum = s.pumpNum ∧
    t.relayNum = s.relayNum ∧ t.errorMask = s.errorMask ∧ t.systemTimeMinutes = s.systemTimeMinutes ∧
    t.heatQuantityWh = s.heatQuantityWh ∧ t.systemVariant = s.systemVariant ∧ t.opHours = s.opHours ∧ t.km = s.km

/-- The two flags are equal (R32). -/
def SameFlags (s t : State) : Prop := t.ready = s.ready ∧ t.busOk = s.busOk

/-- Parameter, environment and the model's counter are equal. -/
def SameModel (s t : State) : Prop := t.wdogRearm = s.wdogRearm ∧ t.env = s.env ∧ t.resets = s.resets

/-- No octet is consumed and no port changes. -/
def SameInputs (s t : State) : Prop := t.ports = s.ports ∧ SameModel s t

/-- One octet is consumed and nothing else of the inputs changes (R17, R22). -/
def OneConsumed (s t : State) : Prop :=
  t.ports = { s.ports with rxPending := s.ports.rxPending.tail } ∧ SameModel s t

/-- Every octet of the frame buffer reads as before. -/
def SameBuffer (s t : State) : Prop := ∀ a, t.octet a = s.octet a

/-- The one octet stored is `b` at index `a`; every other index reads as before. -/
def StoredAt (a : Nat) (b : Byte) (s t : State) : Prop := t.octet a = b ∧ ∀ x, x ≠ a → t.octet x = s.octet x

/-- What every consuming operation leaves unchanged: protocol, watchdog time, flags, snapshot; one octet is consumed. -/
def ReceiveFrame (s t : State) : Prop :=
  t.protocol = s.protocol ∧ t.lastProgressMs = s.lastProgressMs ∧ SameFlags s t ∧ SameSnapshot s t ∧ OneConsumed s t

/-- The frame around every Decode operation that sets `ready` (R180, R181), and what every one leaves unchanged. -/
def DecodeFrame (s t : State) : Prop :=
  t.lastProgressMs = s.ports.nowMs ∧ t.busOk = true ∧ t.ready = true ∧ t.phase = .sync ∧ t.writeIdx = 0 ∧
    t.protocol = s.protocol ∧ t.header = s.header ∧ SameInputs s t

/-! ### VBUS blocks after the septet injection -/

/-- Data octet `i` (0 to 3) of the block at offset `o`, with bit 7 put back from the septet at `o + 4` (R182). -/
def injected (s : State) (o i : Nat) : Byte :=
  s.octet (o + i) ||| (if (s.octet (o + 4)).getLsbD i then 0x80 else 0)

/-- `LE16` of two injected data octets (R188). -/
def injected16 (s : State) (o i : Nat) : Half := injected s o (i + 1) ++ injected s o i

/-- The buffer after an extractor has injected the septets of those of `blocks` that the frame has (R184): block `k`
stands at `9 + 6 * k`, its data octets at the first four indices. -/
def afterInjection (s : State) (blocks : List Nat) (a : Nat) : Byte :=
  if 9 ≤ a ∧ (a - 9) % 6 < 4 ∧ (a - 9) / 6 ∈ blocks ∧ (a - 9) / 6 < s.header.frameCnt.toNat then
    injected s (9 + 6 * ((a - 9) / 6)) ((a - 9) % 6)
  else s.octet a

/-! ### The selection conditions of R81 -/

/-- `rst = 0`, the state is `p`, the watchdog is quiet and the octet `b` is presented: the step consumes `b`. -/
def State.presents (s : State) (p : Phase) (b : Byte) : Prop :=
  s.ports.rst = false ∧ s.phase = p ∧ s.wdogDue = false ∧ s.ports.rxPending.head? = some b

/-- In RECEIVE under `q`, with `b` presented. -/
def State.receives (s : State) (q : Protocol) (b : Byte) : Prop := s.presents .receive b ∧ s.protocol = q

/-- In DECODE under `q`. -/
def State.decodes (s : State) (q : Protocol) : Prop := s.ports.rst = false ∧ s.phase = .decode ∧ s.protocol = q

/-- In SYNC or RECEIVE without reset. -/
def State.listens (s : State) : Prop := s.ports.rst = false ∧ (s.phase = .sync ∨ s.phase = .receive)

/-- The condition of a status record (R215). -/
def State.isStatusRecord (s : State) : Prop :=
  15 ≤ (s.octet 1).toNat ∧ s.octet 4 = 0xBF ∧ 0x1C ≤ (s.octet 7).toNat ∧ (s.octet 7).toNat ≤ 0x1F

/-- The KM completion check (R166): stop octet and CRC. -/
def State.kmGood (s : State) (b : Byte) : Prop :=
  b = 0x16 ∧ crc16km s.seen 4 (s.seen 1).toNat = s.seen (s.nextLen - 2) ++ s.seen (s.nextLen - 3)

/-- The selection condition of each operation, row by row of R81; `n` is `s.nextLen` and the buffer is read with the
presented octet in place (`s.seen`). -/
def rowCondition (i : Instr) (s : State) : Prop :=
  let n := s.nextLen
  match i with
  | .reset => s.ports.rst = true
  | .err => s.ports.rst = false ∧ s.phase = .error
  | .wdog => s.listens ∧ s.wdogDue = true
  | .idle => s.listens ∧ s.wdogDue = false ∧ s.ports.rxPending = []
  | .syncSkip b =>
    s.presents .sync b ∧
      (s.protocol = .vbus ∧ b ≠ 0xAA ∨ s.protocol = .kw ∧ b ≠ 0x01 ∨ s.protocol = .p300 ∧ b ≠ 0x05 ∧ b ≠ 0x01 ∨
        s.protocol = .km ∧ b ≠ 0x68)
  | .syncVbus b => s.presents .sync b ∧ s.protocol = .vbus ∧ b = 0xAA
  | .syncKw b => s.presents .sync b ∧ s.protocol = .kw ∧ b = 0x01
  | .syncP300 b => s.presents .sync b ∧ s.protocol = .p300 ∧ (b = 0x05 ∨ b = 0x01)
  | .syncKm b => s.presents .sync b ∧ s.protocol = .km ∧ b = 0x68
  | .vrxMsb b => s.receives .vbus b ∧ b.getLsbD 7 = true
  | .vrxHdrDiscard b => s.receives .vbus b ∧ b.getLsbD 7 = false ∧ n = 11 ∧ s.seen 4 >>> 4 ≠ 1
  | .vrxHdrCrcerr b =>
    s.receives .vbus b ∧ b.getLsbD 7 = false ∧ n = 11 ∧ s.seen 4 >>> 4 = 1 ∧ calcCrc s.seen 0 9 ≠ 0
  | .vrxHdrOk b =>
    s.receives .vbus b ∧ b.getLsbD 7 = false ∧ n = 11 ∧ s.seen 4 >>> 4 = 1 ∧ calcCrc s.seen 0 9 = 0
  | .vrxStore b =>
    s.receives .vbus b ∧ b.getLsbD 7 = false ∧ n ≠ 11 ∧ ¬(11 < n ∧ n + 1 = s.header.frameLen.toNat) ∧ n < 255
  | .vrxEndOk b =>
    s.receives .vbus b ∧ b.getLsbD 7 = false ∧ 11 < n ∧ n + 1 = s.header.frameLen.toNat ∧
      ∀ k < s.header.frameCnt.toNat, calcCrc s.seen (9 + 6 * k) 6 = 0
  | .vrxEndCrcerr b =>
    s.receives .vbus b ∧ b.getLsbD 7 = false ∧ 11 < n ∧ n + 1 = s.header.frameLen.toNat ∧
      ∃ k < s.header.frameCnt.toNat, calcCrc s.seen (9 + 6 * k) 6 ≠ 0
  | .vrxOvf b => s.receives .vbus b ∧ b.getLsbD 7 = false ∧ n = 255 ∧ n + 1 ≠ s.header.frameLen.toNat
  | .krxStore b => s.receives .kw b ∧ ¬(2 ≤ n ∧ n = (s.seen 1).toNat + 3) ∧ n < 255
  | .krxEndOk b => s.receives .kw b ∧ 2 ≤ n ∧ n = (s.seen 1).toNat + 3 ∧ xorRange s.seen 0 (n - 1) = b
  | .krxEndErr b => s.receives .kw b ∧ 2 ≤ n ∧ n = (s.seen 1).toNat + 3 ∧ xorRange s.seen 0 (n - 1) ≠ b
  | .krxOvf b => s.receives .kw b ∧ n = 255 ∧ n ≠ (s.seen 1).toNat + 3
  | .prxStore b => s.receives .p300 b ∧ ¬(2 ≤ n ∧ n = (s.seen 1).toNat + 3) ∧ n < 255
  | .prxEndOk b => s.receives .p300 b ∧ 2 ≤ n ∧ n = (s.seen 1).toNat + 3 ∧ sum8Range s.seen 0 (n - 1) = b
  | .prxEndErr b => s.receives .p300 b ∧ 2 ≤ n ∧ n = (s.seen 1).toNat + 3 ∧ sum8Range s.seen 0 (n - 1) ≠ b
  | .prxOvf b => s.receives .p300 b ∧ n = 255 ∧ n ≠ (s.seen 1).toNat + 3
  | .mrxStore b => s.receives .km b ∧ n ≠ 4 ∧ ¬(4 < n ∧ n = (s.seen 1).toNat + 7) ∧ n < 255
  | .mrxHdrOk b => s.receives .km b ∧ n = 4 ∧ b = 0x68 ∧ s.seen 1 = s.seen 2
  | .mrxHdrErr b => s.receives .km b ∧ n = 4 ∧ (b ≠ 0x68 ∨ s.seen 1 ≠ s.seen 2)
  | .mrxEndOk b => s.receives .km b ∧ 4 < n ∧ n = (s.seen 1).toNat + 7 ∧ s.kmGood b
  | .mrxEndErr b => s.receives .km b ∧ 4 < n ∧ n = (s.seen 1).toNat + 7 ∧ ¬ s.kmGood b
  | .mrxOvf b => s.receives .km b ∧ n = 255 ∧ n ≠ (s.seen 1).toNat + 7
  | .decVbusDrop => s.decodes .vbus ∧ s.header.cmd ≠ 0x0100
  | .decVbusVitosolic => s.decodes .vbus ∧ s.header.cmd = 0x0100 ∧ s.header.srcAddr = 0x1060
  | .decVbusBx =>
    s.decodes .vbus ∧ s.header.cmd = 0x0100 ∧ (s.header.srcAddr = 0x7E11 ∨ s.header.srcAddr = 0x7E21)
  | .decVbusMx => s.decodes .vbus ∧ s.header.cmd = 0x0100 ∧ s.header.srcAddr = 0x7E31
  | .decVbusGeneric =>
    s.decodes .vbus ∧ s.header.cmd = 0x0100 ∧ s.header.srcAddr ≠ 0x1060 ∧ s.header.srcAddr ≠ 0x7E11 ∧
      s.header.srcAddr ≠ 0x7E21 ∧ s.header.srcAddr ≠ 0x7E31
  | .decKw => s.decodes .kw
  | .decP300 => s.decodes .p300
  | .decKmStatus => s.decodes .km ∧ s.isStatusRecord
  | .decKmOther => s.decodes .km ∧ ¬ s.isStatusRecord

/-! ### Transitions -/

/-- The legal transitions of `state` without reset (R26). -/
def legalTransition : Phase → Phase → Bool
  | .sync, .sync | .sync, .receive | .sync, .error => true
  | .receive, .receive | .receive, .decode | .receive, .error | .receive, .sync => true
  | .decode, .sync => true
  | .error, .sync => true
  | _, _ => false

/-- `state` after each operation, by the table of R86. -/
def phaseAfter (i : Instr) (before : Phase) : Phase :=
  match i with
  | .reset => .sync
  | .idle | .syncSkip _ => before
  | .wdog => .error
  | .err => .sync
  | .syncVbus _ | .syncKw _ | .syncP300 _ | .syncKm _ => .receive
  | .vrxStore _ | .vrxHdrOk _ | .krxStore _ | .prxStore _ | .mrxStore _ | .mrxHdrOk _ => .receive
  | .vrxHdrDiscard _ => .sync
  | .vrxMsb _ => .error
  | .vrxHdrCrcerr _ | .vrxEndCrcerr _ | .vrxOvf _ | .krxEndErr _ | .krxOvf _ | .prxEndErr _ | .prxOvf _
  | .mrxHdrErr _ | .mrxEndErr _ | .mrxOvf _ => .error
  | .vrxEndOk _ | .krxEndOk _ | .prxEndOk _ | .mrxEndOk _ => .decode
  | .decVbusDrop | .decVbusVitosolic | .decVbusBx | .decVbusMx | .decVbusGeneric | .decKw | .decP300 | .decKmStatus
  | .decKmOther => .sync

/-- `write_idx` after each operation, by the table of R86, without wrap. -/
def indexAfter (i : Instr) (before : Nat) : Nat :=
  match i with
  | .reset => 0
  | .idle | .syncSkip _ => before
  | .wdog => before
  | .err => 0
  | .syncVbus _ => 0
  | .syncKw _ | .syncP300 _ | .syncKm _ => 1
  | .vrxStore _ | .vrxHdrOk _ | .krxStore _ | .prxStore _ | .mrxStore _ | .mrxHdrOk _ => before + 1
  | .vrxHdrDiscard _ => 0
  | .vrxMsb _ => before
  | .vrxHdrCrcerr _ | .vrxEndCrcerr _ | .vrxOvf _ | .krxEndErr _ | .krxOvf _ | .prxEndErr _ | .prxOvf _
  | .mrxHdrErr _ | .mrxEndErr _ | .mrxOvf _ => before + 1
  | .vrxEndOk _ | .krxEndOk _ | .prxEndOk _ | .mrxEndOk _ => before + 1
  | .decVbusDrop | .decVbusVitosolic | .decVbusBx | .decVbusMx | .decVbusGeneric | .decKw | .decP300 | .decKmStatus
  | .decKmOther => 0

/-! ### The invariant -/

/-- What holds of every state that a run from reset reaches; each clause names the rule it comes from. -/
structure Inv (s : State) : Prop where
  /-- the buffer is canonical and stays inside 0 to 254 (R50, R51) -/
  bufWf : s.buf.wf = true
  /-- I3: in SYNC the index is 0 (R27) -/
  syncIndex : s.phase = .sync → s.writeIdx = 0
  /-- no step of RECEIVE starts with a full buffer (R27, R238) -/
  receiveIndex : s.phase = .receive → s.writeIdx.toNat < 255
  /-- under KW, P300 and KM the sync octet is stored (R57) -/
  receiveStarted : s.phase = .receive → s.protocol ≠ .vbus → 1 ≤ s.writeIdx.toNat
  /-- the frame so far has been stored: no index below `write_idx` is unwritten (R58) -/
  frameStored : s.phase = .receive ∨ s.phase = .decode → ∀ a < s.writeIdx.toNat, (s.buf.read? a).isSome = true
  /-- under VBUS no octet with bit 7 set reaches the buffer in RECEIVE (R29, R122) -/
  sevenBit : s.phase = .receive → s.protocol = .vbus → ∀ a < s.writeIdx.toNat, (s.octet a).toNat < 128
  /-- the header registers are clear or hold a decoded header (R29, R123) -/
  headerShape : s.header = Header.zero ∨
    (s.header.frameCnt.toNat < 128 ∧ s.header.frameLen.toNat = 10 + 6 * s.header.frameCnt.toNat)
  /-- past the header the frame is of version 1 (R124) -/
  headerVersion : s.phase = .receive → s.protocol = .vbus → 11 ≤ s.writeIdx.toNat → s.header.protoVer = 1
  /-- a validated VBUS frame has 1 to 41 blocks, version 1, and exactly its length in the buffer (R74, R132) -/
  decodeVbus : s.phase = .decode → s.protocol = .vbus →
    1 ≤ s.header.frameCnt.toNat ∧ s.header.frameCnt.toNat ≤ 41 ∧ s.header.protoVer = 1 ∧
      s.writeIdx.toNat = 9 + 6 * s.header.frameCnt.toNat
  /-- a validated KW or P300 frame has exactly its length in the buffer (R74) -/
  decodeKwp : s.phase = .decode → s.protocol = .kw ∨ s.protocol = .p300 →
    s.writeIdx.toNat = (s.octet 1).toNat + 3
  /-- a validated KM frame has exactly its length in the buffer (R74) -/
  decodeKm : s.phase = .decode → s.protocol = .km → s.writeIdx.toNat = (s.octet 1).toNat + 7
  /-- the VBUS-only registers keep their reset value 0 under the other protocols (R29, R222) -/
  vbusOnly : s.protocol ≠ .vbus →
    s.header = Header.zero ∧ s.errorMask = 0 ∧ s.systemTimeMinutes = 0 ∧ s.heatQuantityWh = 0 ∧
      s.systemVariant = 0 ∧ ∀ i : Fin 8, s.opHours.get i = 0
  /-- the KM view keeps its reset value 0 under the other protocols (R39) -/
  kmOnly : s.protocol ≠ .km → s.km = KmView.zero
  /-- KM temperatures are at most 1275 tenths (R39, R216) -/
  kmRange : s.km.boiler.toNat ≤ 1275 ∧ s.km.hotWater.toNat ≤ 1275 ∧ s.km.outdoor.toNat ≤ 1275 ∧
    s.km.setpoint.toNat ≤ 1275 ∧ s.km.departure.toNat ≤ 1275
  /-- bit 7 of every pump register is 0 (R34) -/
  pumpRange : ∀ i : Fin 32, (s.pump.get i).toNat < 128
  /-- the counts are at most 32 (R36) -/
  counts : s.tempNum.toNat ≤ 32 ∧ s.pumpNum.toNat ≤ 32 ∧ s.relayNum.toNat ≤ 32
  /-- operating hours 2 to 7 are never written, 0 and 1 hold 16-bit values (R38) -/
  hours : ∀ i : Fin 8, (s.opHours.get i).toNat < 65536 ∧ (2 ≤ i.val → s.opHours.get i = 0)
  /-- `ready = 1, bus_ok = 0` never occurs (R254) -/
  flags : s.ready = true → s.busOk = true

/-! ### Agreement on what the current frame has written -/

/-- The two states agree on everything but the octets at and above `write_idx` and the free values behind them: what
R58, R59 and 93_implementation_defined.md E2, E3 say no result can depend on. -/
def AgreeBelowIndex (s t : State) : Prop :=
  t = { s with buf := t.buf, resets := t.resets } ∧ ∀ a < s.writeIdx.toNat, t.octet a = s.octet a

end Sys2Proof.Machine
end

