-- ==== Sys2Proof/Certificates/Slice0/Obligations.lean ====
section
/-! DEFINITION. The statements for the provers. Each docstring names the rules of spec/ it formalises; a clause that is
the model's own choice names its log entry. -/

open Sys2Proof Sys2Proof.Machine

/-! ### A step, selection, operation words -/

/-- A step runs the selected operation and then crosses the step boundary, where the environment makes its next move
(R70, R72; the boundary is the model's, log entry 2); a fault of the operation is a fault of the step. -/
def Obligations.StepRunsSelectedOperation : Prop :=
  ∀ (i : Instr) (s : State), s.selected = i →
    (∀ t, exec i s = .next t → step s = .next t.boundary) ∧ (∀ f, exec i s = .fault f → step s = .fault f)

/-- In every step the selection of R72, R73, R131, R140, R162, R185, R215 finds the operation whose row condition of
R81 holds, and no other row's condition holds. The hypothesis excludes only a full buffer in RECEIVE, which no run
reaches (R27). -/
def Obligations.SelectionFindsTheOneRow : Prop :=
  ∀ s : State, (s.phase = .receive → s.writeIdx.toNat < 255) →
    ∀ i : Instr, s.selected = i ↔ rowCondition i s

/-- The selected operation's event octet fits its row of the operation table, and it is the presented octet (R71,
R81). -/
def Obligations.SelectedOperationIsWellFormed : Prop :=
  ∀ s : State, s.selected.wellFormed = true ∧
    ∀ b, s.selected.eventOctet = some b → s.ports.rxPending.head? = some b

/-- Operation words written out from the rows of R81 (log entry 8): event octet, then row number. -/
def Obligations.OperationWordsDecode : Prop :=
  decode [0x00, 0x01] = .ok .reset ∧ decode [0xAA, 0x06] = .ok (.syncVbus 0xAA) ∧
    decode [0x01, 0x08] = .ok (.syncP300 0x01) ∧ decode [0x85, 0x0A] = .ok (.vrxMsb 0x85) ∧
    decode [0x6D, 0x13] = .ok (.krxEndOk 0x6D) ∧ decode [0xD1, 0x17] = .ok (.prxEndOk 0xD1) ∧
    decode [0x16, 0x1D] = .ok (.mrxEndOk 0x16) ∧ decode [0x00, 0x27] = .ok .decKmStatus ∧
    decode [0x85, 0x0E] = .error .octetDoesNotFit ∧ decode [0x00, 0x29] = .error .noSuchRow

/-- Decoding the operation word of a well-formed operation gives the operation back, with every event octet its row
admits (R71, R81; the word's layout is the model's, log entry 8). -/
def Obligations.DecodeEncodeRoundTrip : Prop :=
  ∀ i : Instr, i.wellFormed = true → decode (encode i) = .ok i

/-- The converse: every word the decoder accepts is the operation word of a well-formed operation (log entry 8). -/
def Obligations.DecodedWordsAreCanonical : Prop :=
  ∀ (w : List Byte) (i : Instr), decode w = .ok i → encode i = w ∧ i.wellFormed = true

/-- Every well-formed operation is selectable from every state, with every event octet its row admits: the situation
the model puts the state in selects exactly it (R72, R83; the situation is the model's, log entry 9). -/
def Obligations.EveryOperationIsSelectable : Prop :=
  ∀ (i : Instr) (s : State), i.wellFormed = true → (s.place i).selected = i

/-! ### System operations -/

/-- RESET (R100, R42): the reset value of every state element but `buf`; the inputs and the parameter stay, no octet is
consumed. -/
def Obligations.ResetWritesResetValues : Prop :=
  ∀ s : State, ∃ t, exec .reset s = .next t ∧
    t.protocol = Protocol.ofCode s.ports.cfgProtocol ∧ t.phase = .sync ∧ t.writeIdx = 0 ∧
    t.lastProgressMs = s.ports.nowMs ∧ t.header = Header.zero ∧ t.ready = false ∧ t.busOk = true ∧
    (∀ i : Fin 32, t.temp.get i = 0 ∧ t.pump.get i = 0 ∧ t.relay.get i = false) ∧
    t.tempNum = 0 ∧ t.pumpNum = 0 ∧ t.relayNum = 0 ∧ t.errorMask = 0 ∧ t.systemTimeMinutes = 0 ∧
    t.heatQuantityWh = 0 ∧ t.systemVariant = 0 ∧ (∀ i : Fin 8, t.opHours.get i = 0) ∧ t.km = KmView.zero ∧
    t.ports = s.ports ∧ t.wdogRearm = s.wdogRearm ∧ t.env = s.env

/-- ERR (R240): it is selected in ERROR without reset, whatever raised the Error; the flags and the index are cleared,
the block is back in SYNC, nothing else changes. -/
def Obligations.ErrClearsFlagsAndReturns : Prop :=
  ∀ s : State, (s.ports.rst = false → s.phase = .error → s.selected = .err) ∧ ∃ t, exec .err s = .next t ∧
    t.busOk = false ∧ t.ready = false ∧ t.writeIdx = 0 ∧ t.phase = .sync ∧ t.protocol = s.protocol ∧
    t.lastProgressMs = s.lastProgressMs ∧ t.header = s.header ∧ SameSnapshot s t ∧ SameInputs s t ∧ SameBuffer s t

/-- WDOG (R243): `last_progress_ms` is re-armed when WDOG_REARM, and left alone when not; an Error is raised; nothing
else changes and no octet is consumed. -/
def Obligations.WdogRearmsAndRaises : Prop :=
  ∀ s : State, ∃ t, exec .wdog s = .next t ∧ t.phase = .error ∧
    t.lastProgressMs = (if s.wdogRearm then s.ports.nowMs else s.lastProgressMs) ∧
    t.writeIdx = s.writeIdx ∧ t.protocol = s.protocol ∧ t.header = s.header ∧ SameFlags s t ∧ SameSnapshot s t ∧
    SameInputs s t ∧ SameBuffer s t

/-- IDLE (R101) changes nothing; SYNC.SKIP (R102) consumes its octet and changes nothing else. -/
def Obligations.IdleAndSkipChangeNothing : Prop :=
  ∀ (s : State) (b : Byte), exec .idle s = .next s ∧
    ∃ t, exec (.syncSkip b) s = .next t ∧ t.phase = s.phase ∧ t.writeIdx = s.writeIdx ∧ t.header = s.header ∧
      ReceiveFrame s t ∧ SameBuffer s t

/-! ### SYNC -/

/-- SYNC.VBUS (R103): the header scratch is cleared, the index is 0, the octet is not stored. -/
def Obligations.SyncVbusStartsFrame : Prop :=
  ∀ (s : State) (b : Byte), ∃ t, exec (.syncVbus b) s = .next t ∧
    t.header = Header.zero ∧ t.writeIdx = 0 ∧ t.phase = .receive ∧ ReceiveFrame s t ∧ SameBuffer s t

/-- SYNC.KW, SYNC.P300, SYNC.KM (R104, R105, R106): the octet is stored at index 0, the index is 1. -/
def Obligations.SyncStoresFirstOctet : Prop :=
  ∀ (s : State) (b : Byte) (i : Instr), i ∈ [Instr.syncKw b, Instr.syncP300 b, Instr.syncKm b] →
    ∃ t, exec i s = .next t ∧ t.writeIdx = 1 ∧ t.phase = .receive ∧ t.header = s.header ∧ ReceiveFrame s t ∧
      StoredAt 0 b s t

/-! ### RECEIVE -/

/-- VRX.STORE, KRX.STORE, PRX.STORE, MRX.STORE (R127, R141, R145, R163): the octet is stored at `write_idx`, which
grows by one. -/
def Obligations.StoreAppendsOctet : Prop :=
  ∀ (s : State) (b : Byte) (i : Instr),
    i ∈ [Instr.vrxStore b, Instr.krxStore b, Instr.prxStore b, Instr.mrxStore b] → s.writeIdx.toNat < 255 →
    ∃ t, exec i s = .next t ∧ t.writeIdx.toNat = s.writeIdx.toNat + 1 ∧ t.phase = s.phase ∧ t.header = s.header ∧
      ReceiveFrame s t ∧ StoredAt s.writeIdx.toNat b s t

/-- VRX.END.OK, KRX.END.OK, PRX.END.OK, MRX.END.OK (R128, R142, R146, R166): the last octet is stored and the block
enters DECODE; no flag changes yet. For VBUS the announced blocks must fit the buffer (log entry 7). -/
def Obligations.EndOkEntersDecode : Prop :=
  ∀ (s : State) (b : Byte) (i : Instr),
    i ∈ [Instr.vrxEndOk b, Instr.krxEndOk b, Instr.prxEndOk b, Instr.mrxEndOk b] → s.writeIdx.toNat < 255 →
    (i = .vrxEndOk b → s.header.frameCnt.toNat ≤ 41) →
    ∃ t, exec i s = .next t ∧ t.writeIdx.toNat = s.writeIdx.toNat + 1 ∧ t.phase = .decode ∧ t.header = s.header ∧
      ReceiveFrame s t ∧ StoredAt s.writeIdx.toNat b s t

/-- VRX.END.CRCERR, KRX.END.ERR, PRX.END.ERR, MRX.END.ERR (R129, R143, R147, R167): the octet is stored and an Error is
raised, which changes `state` only (R230). -/
def Obligations.EndErrRaises : Prop :=
  ∀ (s : State) (b : Byte) (i : Instr),
    i ∈ [Instr.vrxEndCrcerr b, Instr.krxEndErr b, Instr.prxEndErr b, Instr.mrxEndErr b] → s.writeIdx.toNat < 255 →
    (i = .vrxEndCrcerr b → s.header.frameCnt.toNat ≤ 41) →
    ∃ t, exec i s = .next t ∧ t.writeIdx.toNat = s.writeIdx.toNat + 1 ∧ t.phase = .error ∧ t.header = s.header ∧
      ReceiveFrame s t ∧ StoredAt s.writeIdx.toNat b s t

/-- VRX.OVF, KRX.OVF, PRX.OVF, MRX.OVF (R130, R144, R148, R168): `buf[254] <- b; write_idx <- 255`, Error. -/
def Obligations.OverflowFillsBufferAndRaises : Prop :=
  ∀ (s : State) (b : Byte) (i : Instr),
    i ∈ [Instr.vrxOvf b, Instr.krxOvf b, Instr.prxOvf b, Instr.mrxOvf b] →
    ∃ t, exec i s = .next t ∧ t.writeIdx = 255 ∧ t.phase = .error ∧ t.header = s.header ∧ ReceiveFrame s t ∧
      StoredAt 254 b s t

/-- VRX.MSB (R122): the octet is consumed and not stored, an Error is raised. -/
def Obligations.MsbOctetRaises : Prop :=
  ∀ (s : State) (b : Byte), ∃ t, exec (.vrxMsb b) s = .next t ∧ t.phase = .error ∧ t.writeIdx = s.writeIdx ∧
    t.header = s.header ∧ ReceiveFrame s t ∧ SameBuffer s t

/-- VRX.HDR.DISCARD, VRX.HDR.CRCERR, VRX.HDR.OK (R124, R125, R126): the octet is stored and the six header registers
are latched from indices 0 to 8 (R123), whichever of the three runs. `frame_len` is `10 + 6 * frame_cnt` for every
frame count below 128, the only ones a run can hold (R29). -/
def Obligations.HeaderOperationsLatchHeader : Prop :=
  ∀ (s : State) (b : Byte) (i : Instr),
    i ∈ [Instr.vrxHdrDiscard b, Instr.vrxHdrCrcerr b, Instr.vrxHdrOk b] → s.writeIdx.toNat < 255 →
    ∃ t, exec i s = .next t ∧ ReceiveFrame s t ∧ StoredAt s.writeIdx.toNat b s t ∧
      t.header.dstAddr.toNat = (t.octet 0).toNat + 256 * (t.octet 1).toNat ∧
      t.header.srcAddr.toNat = (t.octet 2).toNat + 256 * (t.octet 3).toNat ∧
      t.header.protoVer.toNat = (t.octet 4).toNat / 16 ∧
      t.header.cmd.toNat = (t.octet 5).toNat + 256 * (t.octet 6).toNat ∧
      t.header.frameCnt = t.octet 7 ∧
      ((t.octet 7).toNat < 128 → t.header.frameLen.toNat = 10 + 6 * (t.octet 7).toNat) ∧
      (i = .vrxHdrDiscard b → t.phase = .sync ∧ t.writeIdx = 0) ∧
      (i = .vrxHdrCrcerr b → t.phase = .error ∧ t.writeIdx = 11) ∧
      (i = .vrxHdrOk b → t.phase = s.phase ∧ t.writeIdx = 11)

/-- MRX.HDR.OK and MRX.HDR.ERR (R164, R165): `buf[3] <- b; write_idx <- 4`; the second raises an Error. -/
def Obligations.KmHeaderOperations : Prop :=
  ∀ (s : State) (b : Byte) (i : Instr), i ∈ [Instr.mrxHdrOk b, Instr.mrxHdrErr b] →
    ∃ t, exec i s = .next t ∧ t.writeIdx = 4 ∧ t.phase = (if i = .mrxHdrOk b then s.phase else .error) ∧
      t.header = s.header ∧ ReceiveFrame s t ∧ StoredAt 3 b s t

/-- Where the model stops (log entry 7): an operation that stores at `write_idx` stops when `write_idx` is 255, and a
VBUS END operation stops when the header announces more blocks than fit (R50: there is no index 255). -/
def Obligations.StoresOutsideBufferStop : Prop :=
  ∀ (s : State) (b : Byte),
    (s.writeIdx = 255 → ∀ i ∈ [Instr.vrxStore b, .krxStore b, .prxStore b, .mrxStore b, .vrxEndOk b, .krxEndOk b,
        .prxEndOk b, .mrxEndOk b, .vrxEndCrcerr b, .krxEndErr b, .prxEndErr b, .mrxEndErr b, .vrxHdrDiscard b,
        .vrxHdrCrcerr b, .vrxHdrOk b], exec i s = .fault .bufferIndex) ∧
    (41 < s.header.frameCnt.toNat → ∀ i ∈ [Instr.vrxEndOk b, .vrxEndCrcerr b], exec i s = .fault .bufferIndex)

/-! ### DECODE: the common frame -/

/-- The Decode step (R180, R181): a Decode operation is selected exactly in DECODE without reset, the watchdog due or
not; it completes, feeds the watchdog, sets `bus_ok`, sets `ready` unless it is DEC.VBUS.DROP, returns to SYNC with
index 0, and consumes no octet. -/
def Obligations.DecodeStepFrame : Prop :=
  ∀ s : State, (s.selected.isDecode = true ↔ s.ports.rst = false ∧ s.phase = .decode) ∧
    (s.selected.isDecode = true → s.rxReady = false ∧ ∃ t, exec s.selected s = .next t ∧
      t.lastProgressMs = s.ports.nowMs ∧ t.busOk = true ∧
      t.ready = (if s.selected = .decVbusDrop then s.ready else true) ∧ t.phase = .sync ∧ t.writeIdx = 0 ∧
      t.protocol = s.protocol ∧ t.header = s.header ∧ SameInputs s t)

/-- The dispatch of R185, from `cmd` and `src_addr` alone. -/
def Obligations.VbusDispatchBySourceAddress : Prop :=
  ∀ s : State, s.ports.rst = false → s.phase = .decode → s.protocol = .vbus →
    (s.header.cmd ≠ 0x0100 → s.selected = .decVbusDrop) ∧
    (s.header.cmd = 0x0100 → s.header.srcAddr = 0x1060 → s.selected = .decVbusVitosolic) ∧
    (s.header.cmd = 0x0100 → s.header.srcAddr = 0x7E11 ∨ s.header.srcAddr = 0x7E21 → s.selected = .decVbusBx) ∧
    (s.header.cmd = 0x0100 → s.header.srcAddr = 0x7E31 → s.selected = .decVbusMx) ∧
    (s.header.cmd = 0x0100 → s.header.srcAddr ∉ [0x1060, 0x7E11, 0x7E21, 0x7E31] → s.selected = .decVbusGeneric)

/-- The counts of the four extracting VBUS operations, whatever `frame_cnt` is (R187). -/
def Obligations.VbusCountsAreFixed : Prop :=
  ∀ s : State,
    (∃ t, exec .decVbusVitosolic s = .next t ∧ t.tempNum = 12 ∧ t.pumpNum = 7 ∧ t.relayNum = 7) ∧
    (∃ t, exec .decVbusBx s = .next t ∧ t.tempNum = 6 ∧ t.pumpNum = 2 ∧ t.relayNum = 2) ∧
    (∃ t, exec .decVbusMx s = .next t ∧ t.tempNum = 4 ∧ t.pumpNum = 4 ∧ t.relayNum = 4) ∧
    (∃ t, exec .decVbusGeneric s = .next t ∧ t.tempNum = 4 ∧ t.pumpNum = 0 ∧ t.relayNum = 0)

/-! ### DECODE: VBUS -/

/-- DEC.VBUS.DROP (R186): it is selected for a VBUS frame whose command is not 0x0100; the entry actions happen;
`ready`, the counts, all data and the buffer are untouched. -/
def Obligations.DropTouchesNoData : Prop :=
  ∀ s : State, (s.decodes .vbus → s.header.cmd ≠ 0x0100 → s.selected = .decVbusDrop) ∧
    ∃ t, exec .decVbusDrop s = .next t ∧
    t.lastProgressMs = s.ports.nowMs ∧ t.busOk = true ∧ t.ready = s.ready ∧ t.phase = .sync ∧ t.writeIdx = 0 ∧
    t.protocol = s.protocol ∧ t.header = s.header ∧ SameSnapshot s t ∧ SameInputs s t ∧ SameBuffer s t

/-- DEC.VBUS.VITOSOLIC (R189, R188, R184): every register a present block feeds has the injected field, every other
register is unchanged, and the buffer changes only by the injection of the present blocks of the map. -/
def Obligations.VitosolicExtracts : Prop :=
  ∀ s : State, ∃ t, exec .decVbusVitosolic s = .next t ∧ DecodeFrame s t ∧
    (∀ k : Fin 6,
      t.temp.get ⟨2 * k.val, by omega⟩ =
        (if k.val < s.header.frameCnt.toNat then injected16 s (9 + 6 * k.val) 0 else s.temp.get ⟨2 * k.val, by omega⟩) ∧
      t.temp.get ⟨2 * k.val + 1, by omega⟩ =
        (if k.val < s.header.frameCnt.toNat then injected16 s (9 + 6 * k.val) 2
          else s.temp.get ⟨2 * k.val + 1, by omega⟩)) ∧
    (∀ i : Fin 32, 12 ≤ i.val → t.temp.get i = s.temp.get i) ∧
    (∀ j : Fin 32, j.val < 4 →
      t.pump.get j = (if 11 < s.header.frameCnt.toNat then injected s 75 j.val &&& 0x7F else s.pump.get j) ∧
      t.relay.get j =
        (if 11 < s.header.frameCnt.toNat then decide (injected s 75 j.val &&& 0x7F = 100) else s.relay.get j)) ∧
    (∀ j : Fin 32, 4 ≤ j.val → j.val < 7 →
      t.pump.get j = (if 12 < s.header.frameCnt.toNat then injected s 81 (j.val - 4) &&& 0x7F else s.pump.get j) ∧
      t.relay.get j =
        (if 12 < s.header.frameCnt.toNat then decide (injected s 81 (j.val - 4) &&& 0x7F = 100)
          else s.relay.get j)) ∧
    (∀ j : Fin 32, 7 ≤ j.val → t.pump.get j = s.pump.get j ∧ t.relay.get j = s.relay.get j) ∧
    t.errorMask = (if 13 < s.header.frameCnt.toNat then injected16 s 87 0 else s.errorMask) ∧
    t.systemTimeMinutes = (if 13 < s.header.frameCnt.toNat then injected16 s 87 2 else s.systemTimeMinutes) ∧
    t.systemVariant = (if 14 < s.header.frameCnt.toNat then injected s 93 0 else s.systemVariant) ∧
    t.heatQuantityWh = s.heatQuantityWh ∧ t.opHours = s.opHours ∧ t.km = s.km ∧
    t.tempNum = 12 ∧ t.pumpNum = 7 ∧ t.relayNum = 7 ∧
    (∀ a, t.octet a = afterInjection s [0, 1, 2, 3, 4, 5, 11, 12, 13, 14] a)

/-- DEC.VBUS.BX (R190, R188, R184). -/
def Obligations.BxExtracts : Prop :=
  ∀ s : State, ∃ t, exec .decVbusBx s = .next t ∧ DecodeFrame s t ∧
    (∀ k : Fin 3,
      t.temp.get ⟨2 * k.val, by omega⟩ =
        (if k.val < s.header.frameCnt.toNat then injected16 s (9 + 6 * k.val) 0 else s.temp.get ⟨2 * k.val, by omega⟩) ∧
      t.temp.get ⟨2 * k.val + 1, by omega⟩ =
        (if k.val < s.header.frameCnt.toNat then injected16 s (9 + 6 * k.val) 2
          else s.temp.get ⟨2 * k.val + 1, by omega⟩)) ∧
    (∀ i : Fin 32, 6 ≤ i.val → t.temp.get i = s.temp.get i) ∧
    (∀ j : Fin 32, j.val < 2 →
      t.pump.get j = (if 4 < s.header.frameCnt.toNat then injected s 33 j.val &&& 0x7F else s.pump.get j) ∧
      t.relay.get j =
        (if 4 < s.header.frameCnt.toNat then decide (0 < (injected s 33 j.val &&& 0x7F).toNat) else s.relay.get j)) ∧
    (∀ j : Fin 32, 2 ≤ j.val → t.pump.get j = s.pump.get j ∧ t.relay.get j = s.relay.get j) ∧
    (t.opHours.get 0).toNat =
      (if 5 < s.header.frameCnt.toNat then (injected16 s 39 0).toNat else (s.opHours.get 0).toNat) ∧
    (t.opHours.get 1).toNat =
      (if 5 < s.header.frameCnt.toNat then (injected16 s 39 2).toNat else (s.opHours.get 1).toNat) ∧
    (∀ j : Fin 8, 2 ≤ j.val → t.opHours.get j = s.opHours.get j) ∧
    t.heatQuantityWh = (if 6 < s.header.frameCnt.toNat then injected16 s 45 0 else s.heatQuantityWh) ∧
    t.errorMask = s.errorMask ∧ t.systemTimeMinutes = s.systemTimeMinutes ∧ t.systemVariant = s.systemVariant ∧
    t.km = s.km ∧ t.tempNum = 6 ∧ t.pumpNum = 2 ∧ t.relayNum = 2 ∧
    (∀ a, t.octet a = afterInjection s [0, 1, 2, 4, 5, 6] a)

/-- DEC.VBUS.MX (R191, R188, R184). -/
def Obligations.MxExtracts : Prop :=
  ∀ s : State, ∃ t, exec .decVbusMx s = .next t ∧ DecodeFrame s t ∧
    (∀ k : Fin 2,
      t.temp.get ⟨2 * k.val, by omega⟩ =
        (if k.val < s.header.frameCnt.toNat then injected16 s (9 + 6 * k.val) 0 else s.temp.get ⟨2 * k.val, by omega⟩) ∧
      t.temp.get ⟨2 * k.val + 1, by omega⟩ =
        (if k.val < s.header.frameCnt.toNat then injected16 s (9 + 6 * k.val) 2
          else s.temp.get ⟨2 * k.val + 1, by omega⟩)) ∧
    (∀ i : Fin 32, 4 ≤ i.val → t.temp.get i = s.temp.get i) ∧
    (∀ j : Fin 32, j.val < 4 →
      t.pump.get j = (if 2 < s.header.frameCnt.toNat then injected s 21 j.val &&& 0x7F else s.pump.get j) ∧
      t.relay.get j =
        (if 2 < s.header.frameCnt.toNat then decide (0 < (injected s 21 j.val &&& 0x7F).toNat) else s.relay.get j)) ∧
    (∀ j : Fin 32, 4 ≤ j.val → t.pump.get j = s.pump.get j ∧ t.relay.get j = s.relay.get j) ∧
    (t.opHours.get 0).toNat =
      (if 3 < s.header.frameCnt.toNat then (injected16 s 27 0).toNat else (s.opHours.get 0).toNat) ∧
    (t.opHours.get 1).toNat =
      (if 3 < s.header.frameCnt.toNat then (injected16 s 27 2).toNat else (s.opHours.get 1).toNat) ∧
    (∀ j : Fin 8, 2 ≤ j.val → t.opHours.get j = s.opHours.get j) ∧
    t.heatQuantityWh = (if 4 < s.header.frameCnt.toNat then injected16 s 33 0 else s.heatQuantityWh) ∧
    t.errorMask = (if 5 < s.header.frameCnt.toNat then injected16 s 39 0 else s.errorMask) ∧
    t.systemTimeMinutes = s.systemTimeMinutes ∧ t.systemVariant = s.systemVariant ∧ t.km = s.km ∧
    t.tempNum = 4 ∧ t.pumpNum = 4 ∧ t.relayNum = 4 ∧
    (∀ a, t.octet a = afterInjection s [0, 1, 2, 3, 4, 5] a)

/-- DEC.VBUS.GENERIC (R192, R188, R184): the pump and relay registers are not written. -/
def Obligations.GenericExtracts : Prop :=
  ∀ s : State, ∃ t, exec .decVbusGeneric s = .next t ∧ DecodeFrame s t ∧
    (∀ k : Fin 2,
      t.temp.get ⟨2 * k.val, by omega⟩ =
        (if k.val < s.header.frameCnt.toNat then injected16 s (9 + 6 * k.val) 0 else s.temp.get ⟨2 * k.val, by omega⟩) ∧
      t.temp.get ⟨2 * k.val + 1, by omega⟩ =
        (if k.val < s.header.frameCnt.toNat then injected16 s (9 + 6 * k.val) 2
          else s.temp.get ⟨2 * k.val + 1, by omega⟩)) ∧
    (∀ i : Fin 32, 4 ≤ i.val → t.temp.get i = s.temp.get i) ∧
    t.pump = s.pump ∧ t.relay = s.relay ∧ t.errorMask = s.errorMask ∧ t.systemTimeMinutes = s.systemTimeMinutes ∧
    t.heatQuantityWh = s.heatQuantityWh ∧ t.systemVariant = s.systemVariant ∧ t.opHours = s.opHours ∧ t.km = s.km ∧
    t.tempNum = 4 ∧ t.pumpNum = 0 ∧ t.relayNum = 0 ∧
    (∀ a, t.octet a = afterInjection s [0, 1] a)

/-- `septetInject(buf, offset, len)` (R182): data octet `i` gets bit 7 when septet bit `i` is set, and keeps what it had
otherwise; nothing else changes, the septet included, and a second application changes nothing. -/
def Obligations.SeptetInjectPutsBackBit7 : Prop :=
  ∀ (s : State) (o len : Nat),
    (∀ i < len, (s.septetInject o len).octet (o + i) =
      s.octet (o + i) ||| (if (s.octet (o + len)).getLsbD i then 0x80 else 0)) ∧
    (∀ a, a < o ∨ o + len ≤ a → (s.septetInject o len).octet a = s.octet a) ∧
    s.septetInject o len = { s with buf := (s.septetInject o len).buf } ∧
    (∀ a, ((s.septetInject o len).septetInject o len).octet a = (s.septetInject o len).octet a)

/-- `present(o)` of a validated VBUS frame (R184): the two forms of the guard agree for every block offset. -/
def Obligations.PresentMeansInsideFrame : Prop :=
  ∀ (s : State) (k : Nat), Inv s → s.phase = .decode → s.protocol = .vbus →
    (s.present (9 + 6 * k) = true ↔ 9 + 6 * k + 6 ≤ s.writeIdx.toNat)

/-! ### DECODE: KW, P300, KM -/

/-- DEC.KW and DEC.P300 (R210, R211, R212): `nt` big-endian temperatures from `start`, pumps and relays all cleared,
counts `nt, 0, 0`; the buffer and every other register unchanged. -/
def Obligations.KwAndP300Extract : Prop :=
  ∀ (s : State) (i : Instr) (start : Nat), (i, start) ∈ [(Instr.decKw, 3), (Instr.decP300, 5)] →
    ∃ t, exec i s = .next t ∧ DecodeFrame s t ∧
      (∀ j : Fin 32, t.temp.get j =
        (if j.val < min 4 (((s.octet 1).toNat + 2 - start) / 2) then
          s.octet (start + 2 * j.val) ++ s.octet (start + 2 * j.val + 1) else s.temp.get j)) ∧
      (∀ j : Fin 32, t.pump.get j = 0 ∧ t.relay.get j = false) ∧
      t.tempNum.toNat = min 4 (((s.octet 1).toNat + 2 - start) / 2) ∧ t.pumpNum = 0 ∧ t.relayNum = 0 ∧
      t.errorMask = s.errorMask ∧ t.systemTimeMinutes = s.systemTimeMinutes ∧ t.heatQuantityWh = s.heatQuantityWh ∧
      t.systemVariant = s.systemVariant ∧ t.opHours = s.opHours ∧ t.km = s.km ∧ SameBuffer s t

/-- DEC.KM.STATUS (R219, R216, R217): the KM view from the decoded octets, `km_mode` only behind the gate, the mirror
in the generic arrays, counts 5, 2, 1; every other register and the buffer unchanged. -/
def Obligations.KmStatusExtracts : Prop :=
  ∀ s : State, ∃ t, exec .decKmStatus s = .next t ∧ DecodeFrame s t ∧
    t.km.burner = (s.octet 8 ^^^ 0xAA).getLsbD 2 ∧
    t.km.boiler.toNat = 5 * (s.octet 10 ^^^ 0xAA).toNat ∧
    t.km.hotWater.toNat = 5 * (s.octet 11 ^^^ 0xAA).toNat ∧
    t.km.setpoint.toNat = 5 * (s.octet 12 ^^^ 0xAA).toNat ∧
    t.km.outdoor.toNat = 5 * (s.octet 14 ^^^ 0xAA).toNat ∧
    t.km.mainPump = (s.octet 15 ^^^ 0xAA).getLsbD 7 ∧
    t.km.loopPump = (s.octet 15 ^^^ 0xAA).getLsbD 6 ∧
    t.km.departure.toNat = 5 * (s.octet 16 ^^^ 0xAA).toNat ∧
    t.km.mode = (if s.octet 17 = 0xAA then s.octet 18 ^^^ 0xAA else s.km.mode) ∧
    t.temp.get 0 = t.km.boiler ∧ t.temp.get 1 = t.km.hotWater ∧ t.temp.get 2 = t.km.outdoor ∧
    t.temp.get 3 = t.km.setpoint ∧ t.temp.get 4 = t.km.departure ∧
    (∀ j : Fin 32, 5 ≤ j.val → t.temp.get j = s.temp.get j) ∧
    t.pump.get 0 = (if t.km.mainPump then 100 else 0) ∧ t.pump.get 1 = (if t.km.loopPump then 100 else 0) ∧
    (∀ j : Fin 32, 2 ≤ j.val → t.pump.get j = s.pump.get j) ∧
    t.relay.get 0 = t.km.burner ∧ (∀ j : Fin 32, 1 ≤ j.val → t.relay.get j = s.relay.get j) ∧
    t.tempNum = 5 ∧ t.pumpNum = 2 ∧ t.relayNum = 1 ∧
    t.errorMask = s.errorMask ∧ t.systemTimeMinutes = s.systemTimeMinutes ∧ t.heatQuantityWh = s.heatQuantityWh ∧
    t.systemVariant = s.systemVariant ∧ t.opHours = s.opHours ∧ SameBuffer s t

/-- DEC.KM.OTHER (R220): it is selected for a KM frame that is no status record; the Decode frame with an empty
extractor; `ready` is set, no data changes. -/
def Obligations.KmOtherTouchesNoData : Prop :=
  ∀ s : State,
    (s.decodes .km → (s.octet 1).toNat < 15 ∨ s.octet 4 ≠ 0xBF ∨ (s.octet 7).toNat < 0x1C ∨ 0x1F < (s.octet 7).toNat →
      s.selected = .decKmOther) ∧
    ∃ t, exec .decKmOther s = .next t ∧ DecodeFrame s t ∧ SameSnapshot s t ∧ SameBuffer s t

/-! ### The integrity checks -/

/-- The closed form of `calcCRC` (R120): 7 bits, `(0x7F - sum) mod 128`. -/
def Obligations.CalcCrcClosedForm : Prop :=
  ∀ (rd : Nat → Byte) (off len : Nat),
    ((calcCrc rd off len).toNat : Int) = (0x7F - ((List.range len).map fun i => ((rd (off + i)).toNat : Int)).sum) % 128

/-- The laws of `calcCRC` (R121): (a) it depends only on the sum modulo 128; (b) the octets pass exactly with the check
octet `(0x7F - sum) mod 128`; (c) one octet changed by no multiple of 128 makes a passing sequence fail, so does every
change of one octet below 0x80 into another; (d) two changes whose sum is a multiple of 128 cancel; (e) the empty range
gives 0x7F. -/
def Obligations.CalcCrcLaws : Prop :=
  (∀ (rd rd' : Nat → Byte) (off off' len len' : Nat),
    ((List.range len).map fun i => (rd (off + i)).toNat).sum % 128 =
      ((List.range len').map fun i => (rd' (off' + i)).toNat).sum % 128 → calcCrc rd off len = calcCrc rd' off' len') ∧
  (∀ (rd : Nat → Byte) (off len : Nat),
    ((rd (off + len)).toNat : Int) % 128 =
        (0x7F - ((List.range len).map fun i => ((rd (off + i)).toNat : Int)).sum) % 128 ↔
      calcCrc rd off (len + 1) = 0) ∧
  (∀ (rd rd' : Nat → Byte) (off len k : Nat), k < len → calcCrc rd off len = 0 →
    (∀ a, a ≠ off + k → rd' a = rd a) → (rd' (off + k)).toNat % 128 ≠ (rd (off + k)).toNat % 128 →
    calcCrc rd' off len ≠ 0) ∧
  (∀ (rd rd' : Nat → Byte) (off len k : Nat), k < len → calcCrc rd off len = 0 →
    (∀ a, a ≠ off + k → rd' a = rd a) → rd' (off + k) ≠ rd (off + k) → (rd (off + k)).toNat < 128 →
    (rd' (off + k)).toNat < 128 → calcCrc rd' off len ≠ 0) ∧
  (∀ (rd rd' : Nat → Byte) (off len j k : Nat), j < k → k < len →
    (∀ a, a ≠ off + j → a ≠ off + k → rd' a = rd a) →
    ((rd' (off + j)).toNat + (rd' (off + k)).toNat) % 128 = ((rd (off + j)).toNat + (rd (off + k)).toNat) % 128 →
    calcCrc rd' off len = calcCrc rd off len) ∧
  (∀ (rd : Nat → Byte) (off : Nat), calcCrc rd off 0 = 0x7F)

/-- A changed octet of a KW or P300 frame is always detected (R149): two buffers that differ in exactly one octet of
the range have different check values. -/
def Obligations.XorAndSumDetectOneChange : Prop :=
  ∀ (rd rd' : Nat → Byte) (a len k : Nat), k < len → (∀ x, x ≠ a + k → rd' x = rd x) → rd' (a + k) ≠ rd (a + k) →
    xorRange rd' a len ≠ xorRange rd a len ∧ sum8Range rd' a len ≠ sum8Range rd a len

/-- The least-significant-bit-first register of R161 (a). -/
def Sys2Proof.Machine.lsbShift (crc : Half) : Half :=
  if crc.getLsbD 0 then (crc >>> 1) ^^^ 0x8408 else crc >>> 1

/-- One octet into the least-significant-bit-first register (R161 a). -/
def Sys2Proof.Machine.lsbOctet (crc : Half) (x : Byte) : Half :=
  lsbShift (lsbShift (lsbShift (lsbShift (lsbShift (lsbShift (lsbShift (lsbShift (crc ^^^ x.setWidth 16))))))))

/-- `crc16km` equals the least-significant-bit-first form for every input (R161 a). -/
def Obligations.Crc16EqualsLsbFirstForm : Prop :=
  ∀ (rd : Nat → Byte) (off len : Nat),
    crc16km rd off len = ((List.range len).map fun i => rd (off + i)).foldl lsbOctet 0

/-- Every block that R85's VBUSFRAME builds passes its CRC, holds only octets below 0x80, and gives the four data octets
back when its septet is injected (R76, R85, R182). -/
def Obligations.BuiltBlocksPassAndCarryData : Prop :=
  ∀ d0 d1 d2 d3 : Byte,
    (vbusBlock d0 d1 d2 d3).length = 6 ∧ (∀ x ∈ vbusBlock d0 d1 d2 d3, x.toNat < 128) ∧
    calcCrc (readerOf (vbusBlock d0 d1 d2 d3)) 0 6 = 0 ∧
    ∀ s : State, (∀ i < 6, s.octet (9 + i) = readerOf (vbusBlock d0 d1 d2 d3) i) →
      injected s 9 0 = d0 ∧ injected s 9 1 = d1 ∧ injected s 9 2 = d2 ∧ injected s 9 3 = d3

/-! ### The watchdog, errors, recovery -/

/-- The watchdog (R242, R243): without reset, WDOG is selected exactly in SYNC or RECEIVE when strictly more than
20000 ms modulo 2^32 have passed, whether an octet is presented or not. -/
def Obligations.WatchdogFiresStrictlyAfterLimit : Prop :=
  ∀ s : State, s.ports.rst = false →
    (s.selected = .wdog ↔ (s.phase = .sync ∨ s.phase = .receive) ∧
      20000 < (s.ports.nowMs.toNat + 2 ^ 32 - s.lastProgressMs.toNat) % 2 ^ 32)

/-- With `WDOG_REARM = true` the watchdog is quiet right after it has fired: from the state after WDOG and ERR at the
same `now_ms`, it is not due (R243, R253). With `false` it is still due (R244). -/
def Obligations.RearmDecidesWhetherWatchdogRepeats : Prop :=
  ∀ s : State, s.wdogDue = true →
    ∃ t u, exec .wdog s = .next t ∧ exec .err t = .next u ∧ u.phase = .sync ∧ u.ports = s.ports ∧
      u.wdogDue = !s.wdogRearm

/-- State ERROR lasts one step without reset (R239): the step is ERR, it consumes no octet, and the block is in SYNC. -/
def Obligations.ErrorLastsOneStep : Prop :=
  ∀ s : State, s.ports.rst = false → s.phase = .error →
    s.selected = .err ∧ s.rxReady = false ∧
    ∃ t, step s = .next t ∧ t.phase = .sync ∧ t.writeIdx = 0 ∧ t.ready = false ∧ t.busOk = false

/-- The way back to SYNC (R253): from DECODE or ERROR in one step; from SYNC or RECEIVE with the watchdog due in two, if
`rst` stays 0. -/
def Obligations.BackInSyncWithinTwoSteps : Prop :=
  ∀ s : State, s.ports.rst = false →
    (s.phase = .decode ∨ s.phase = .error → ∃ t, step s = .next t ∧ t.phase = .sync ∧ t.writeIdx = 0) ∧
    ((s.phase = .sync ∨ s.phase = .receive) → s.wdogDue = true →
      ∃ t, step s = .next t ∧ t.phase = .error ∧
        (t.ports.rst = false → ∃ u, step t = .next u ∧ u.phase = .sync ∧ u.writeIdx = 0))

/-- A VBUS frame that announces no block or more than 41 never completes (R132). -/
def Obligations.UnfittingFrameCountNeverCompletes : Prop :=
  ∀ (s : State) (b : Byte), Inv s → s.receives .vbus b → 11 ≤ s.writeIdx.toNat →
    (s.header.frameCnt = 0 ∨ 41 < s.header.frameCnt.toNat) →
    s.selected = .vrxMsb b ∨ s.selected = .vrxStore b ∨ s.selected = .vrxOvf b

/-- KW, P300 and KM frames whose announced length does not fit the buffer never complete (R74, R238): KW and P300 with
`len >= 253`, KM with `L >= 249`; the octet is stored, overflows, or is the KM header's fourth. -/
def Obligations.UnfittingLengthNeverCompletes : Prop :=
  ∀ (s : State) (b : Byte), Inv s →
    (s.receives .kw b → 253 ≤ (s.seen 1).toNat → s.selected = .krxStore b ∨ s.selected = .krxOvf b) ∧
    (s.receives .p300 b → 253 ≤ (s.seen 1).toNat → s.selected = .prxStore b ∨ s.selected = .prxOvf b) ∧
    (s.receives .km b → 249 ≤ (s.seen 1).toNat → s.selected = .mrxStore b ∨ s.selected = .mrxOvf b ∨
      (s.writeIdx = 3 ∧ (s.selected = .mrxHdrOk b ∨ s.selected = .mrxHdrErr b)))

/-- With `WDOG_REARM = false` the block is wedged once the watchdog is due (R244): while the inputs hold (no
environment move left, log entry 2) it runs WDOG and ERR in turn, consumes nothing, and the watchdog stays due. -/
def Obligations.WedgeWithoutRearm : Prop :=
  ∀ s : State, s.wdogRearm = false → s.env = [] → s.listens → s.wdogDue = true →
    s.selected = .wdog ∧ s.rxReady = false ∧
    ∃ t, step s = .next t ∧ t.selected = .err ∧ t.rxReady = false ∧
      ∃ u, step t = .next u ∧ u.wdogRearm = false ∧ u.env = [] ∧ u.listens ∧ u.wdogDue = true ∧
        u.ports = s.ports ∧ u.ready = false ∧ u.busOk = false

/-! ### Rules about the whole machine -/

/-- Consumption (R22): the octet is consumed in a step exactly when `rx_valid` and `rx_ready` are 1. -/
def Obligations.ConsumesExactlyWhenReady : Prop :=
  ∀ s t : State, exec s.selected s = .next t →
    t.ports = (if s.rxValid = true ∧ s.rxReady = true then { s.ports with rxPending := s.ports.rxPending.tail }
      else s.ports)

/-- `protocol` is written only by RESET, from `cfg_protocol` (R25). -/
def Obligations.ProtocolWrittenOnlyByReset : Prop :=
  ∀ s t : State, step s = .next t →
    t.protocol = (if s.ports.rst then Protocol.ofCode s.ports.cfgProtocol else s.protocol)

/-- `last_progress_ms` is written with `now_ms` by RESET, every Decode operation, and WDOG with WDOG_REARM, and by
nothing else (R28). -/
def Obligations.LastProgressWriters : Prop :=
  ∀ s t : State, step s = .next t →
    t.lastProgressMs =
      (if s.selected = .reset ∨ s.selected.isDecode = true ∨ (s.selected = .wdog ∧ s.wdogRearm = true) then
        s.ports.nowMs else s.lastProgressMs)

/-- The flags (R32): `bus_ok` is set by every Decode operation, `ready` by every one except DEC.VBUS.DROP, both are
cleared by ERR, RESET gives 0 and 1, and no other operation writes either. -/
def Obligations.FlagWriters : Prop :=
  ∀ s t : State, step s = .next t →
    t.ready = (if s.selected = .reset ∨ s.selected = .err then false
      else if s.selected.isDecode = true ∧ s.selected ≠ .decVbusDrop then true else s.ready) ∧
    t.busOk = (if s.selected = .err then false
      else if s.selected = .reset ∨ s.selected.isDecode = true then true else s.busOk)

/-- No operation other than RESET and the Decode operations writes a snapshot data register (R45, R100), and with the
KM view and the VBUS-only registers each Decode operation keeps to its protocol (R222). -/
def Obligations.SnapshotWrittenOnlyByDecode : Prop :=
  ∀ s t : State, step s = .next t → s.ports.rst = false →
    (s.phase ≠ .decode → SameSnapshot s t) ∧
    (s.selected ≠ .decKmStatus → t.km = s.km) ∧
    (s.protocol ≠ .vbus → t.header = s.header ∧ t.errorMask = s.errorMask ∧
      t.systemTimeMinutes = s.systemTimeMinutes ∧ t.heatQuantityWh = s.heatQuantityWh ∧
      t.systemVariant = s.systemVariant ∧ t.opHours = s.opHours)

/-- The legal transitions of `state` without reset (R26): SYNC goes to ERROR only by the watchdog, RECEIVE goes to SYNC
only by the VBUS version discard. -/
def Obligations.OnlyLegalTransitions : Prop :=
  ∀ s t : State, step s = .next t → s.ports.rst = false →
    legalTransition s.phase t.phase = true ∧
    (s.phase = .sync → t.phase = .error → s.selected = .wdog) ∧
    (s.phase = .receive → t.phase = .sync → ∃ b, s.selected = .vrxHdrDiscard b)

/-- The table of R86: `state` and `write_idx` after every operation. -/
def Obligations.ControlTransferTable : Prop :=
  ∀ s t : State, Inv s → step s = .next t →
    t.phase = phaseAfter s.selected s.phase ∧ t.writeIdx.toNat = indexAfter s.selected s.writeIdx.toNat

/-- The canonical form of the buffer is kept by every step, from every state that has it (R50, R51). -/
def Obligations.EveryStepKeepsBufferForm : Prop :=
  ∀ s t : State, s.buf.wf = true → step s = .next t → t.buf.wf = true

/-- The machine right after reset satisfies the invariant (R42). -/
def Obligations.ResetHasInvariant : Prop := Inv State.reset

/-- The invariant is kept by every step, from every state that has it (R27, R29, R34, R36, R38, R39, R50, R58, R74,
R222, R254). -/
def Obligations.EveryStepKeepsInvariant : Prop :=
  ∀ s t : State, Inv s → step s = .next t → Inv t

/-- Totality (R83, R230): from every state with the invariant the next step neither faults nor is refused. -/
def Obligations.InvariantStatesNeverStop : Prop :=
  ∀ s : State, Inv s → ∃ t, step s = .next t

/-- What a frame has not written cannot matter (R58, R59): two states with the invariant that agree on everything but
the octets at and above `write_idx`, and the free values behind them, select the same operation and step to states
that agree in the same way. -/
def Obligations.StaleOctetsNeverMatter : Prop :=
  ∀ s t s' : State, Inv s → Inv t → AgreeBelowIndex s t → step s = .next s' →
    s.selected = t.selected ∧ ∃ t', step t = .next t' ∧ AgreeBelowIndex s' t'
end

