-- ==== Sys2Proof/Laws/State.lean ====
section
/-! SUPPORT. One lemma per field per update of the state, each true by rfl, so that no proof unfolds a record update. -/

namespace Sys2Proof.Machine

variable (s : State)

/-! ### `State.setOctet` -/

@[simp] theorem State.setOctet_protocol (a : Nat) (v : Byte) : (s.setOctet a v).protocol = s.protocol := rfl
@[simp] theorem State.setOctet_phase (a : Nat) (v : Byte) : (s.setOctet a v).phase = s.phase := rfl
@[simp] theorem State.setOctet_writeIdx (a : Nat) (v : Byte) : (s.setOctet a v).writeIdx = s.writeIdx := rfl
@[simp] theorem State.setOctet_lastProgressMs (a : Nat) (v : Byte) : (s.setOctet a v).lastProgressMs = s.lastProgressMs := rfl
@[simp] theorem State.setOctet_buf (a : Nat) (v : Byte) : (s.setOctet a v).buf = s.buf.write a v := rfl
@[simp] theorem State.setOctet_header (a : Nat) (v : Byte) : (s.setOctet a v).header = s.header := rfl
@[simp] theorem State.setOctet_ready (a : Nat) (v : Byte) : (s.setOctet a v).ready = s.ready := rfl
@[simp] theorem State.setOctet_busOk (a : Nat) (v : Byte) : (s.setOctet a v).busOk = s.busOk := rfl
@[simp] theorem State.setOctet_temp (a : Nat) (v : Byte) : (s.setOctet a v).temp = s.temp := rfl
@[simp] theorem State.setOctet_pump (a : Nat) (v : Byte) : (s.setOctet a v).pump = s.pump := rfl
@[simp] theorem State.setOctet_relay (a : Nat) (v : Byte) : (s.setOctet a v).relay = s.relay := rfl
@[simp] theorem State.setOctet_tempNum (a : Nat) (v : Byte) : (s.setOctet a v).tempNum = s.tempNum := rfl
@[simp] theorem State.setOctet_pumpNum (a : Nat) (v : Byte) : (s.setOctet a v).pumpNum = s.pumpNum := rfl
@[simp] theorem State.setOctet_relayNum (a : Nat) (v : Byte) : (s.setOctet a v).relayNum = s.relayNum := rfl
@[simp] theorem State.setOctet_errorMask (a : Nat) (v : Byte) : (s.setOctet a v).errorMask = s.errorMask := rfl
@[simp] theorem State.setOctet_systemTimeMinutes (a : Nat) (v : Byte) : (s.setOctet a v).systemTimeMinutes = s.systemTimeMinutes := rfl
@[simp] theorem State.setOctet_heatQuantityWh (a : Nat) (v : Byte) : (s.setOctet a v).heatQuantityWh = s.heatQuantityWh := rfl
@[simp] theorem State.setOctet_systemVariant (a : Nat) (v : Byte) : (s.setOctet a v).systemVariant = s.systemVariant := rfl
@[simp] theorem State.setOctet_opHours (a : Nat) (v : Byte) : (s.setOctet a v).opHours = s.opHours := rfl
@[simp] theorem State.setOctet_km (a : Nat) (v : Byte) : (s.setOctet a v).km = s.km := rfl
@[simp] theorem State.setOctet_ports (a : Nat) (v : Byte) : (s.setOctet a v).ports = s.ports := rfl
@[simp] theorem State.setOctet_wdogRearm (a : Nat) (v : Byte) : (s.setOctet a v).wdogRearm = s.wdogRearm := rfl
@[simp] theorem State.setOctet_env (a : Nat) (v : Byte) : (s.setOctet a v).env = s.env := rfl
@[simp] theorem State.setOctet_resets (a : Nat) (v : Byte) : (s.setOctet a v).resets = s.resets := rfl

/-! ### `State.consume` -/

@[simp] theorem State.consume_protocol : (s.consume).protocol = s.protocol := rfl
@[simp] theorem State.consume_phase : (s.consume).phase = s.phase := rfl
@[simp] theorem State.consume_writeIdx : (s.consume).writeIdx = s.writeIdx := rfl
@[simp] theorem State.consume_lastProgressMs : (s.consume).lastProgressMs = s.lastProgressMs := rfl
@[simp] theorem State.consume_buf : (s.consume).buf = s.buf := rfl
@[simp] theorem State.consume_header : (s.consume).header = s.header := rfl
@[simp] theorem State.consume_ready : (s.consume).ready = s.ready := rfl
@[simp] theorem State.consume_busOk : (s.consume).busOk = s.busOk := rfl
@[simp] theorem State.consume_temp : (s.consume).temp = s.temp := rfl
@[simp] theorem State.consume_pump : (s.consume).pump = s.pump := rfl
@[simp] theorem State.consume_relay : (s.consume).relay = s.relay := rfl
@[simp] theorem State.consume_tempNum : (s.consume).tempNum = s.tempNum := rfl
@[simp] theorem State.consume_pumpNum : (s.consume).pumpNum = s.pumpNum := rfl
@[simp] theorem State.consume_relayNum : (s.consume).relayNum = s.relayNum := rfl
@[simp] theorem State.consume_errorMask : (s.consume).errorMask = s.errorMask := rfl
@[simp] theorem State.consume_systemTimeMinutes : (s.consume).systemTimeMinutes = s.systemTimeMinutes := rfl
@[simp] theorem State.consume_heatQuantityWh : (s.consume).heatQuantityWh = s.heatQuantityWh := rfl
@[simp] theorem State.consume_systemVariant : (s.consume).systemVariant = s.systemVariant := rfl
@[simp] theorem State.consume_opHours : (s.consume).opHours = s.opHours := rfl
@[simp] theorem State.consume_km : (s.consume).km = s.km := rfl
@[simp] theorem State.consume_ports : (s.consume).ports = { s.ports with rxPending := s.ports.rxPending.tail } := rfl
@[simp] theorem State.consume_wdogRearm : (s.consume).wdogRearm = s.wdogRearm := rfl
@[simp] theorem State.consume_env : (s.consume).env = s.env := rfl
@[simp] theorem State.consume_resets : (s.consume).resets = s.resets := rfl

/-! ### `State.storeOctet` -/

@[simp] theorem State.storeOctet_protocol (b : Byte) : (s.storeOctet b).protocol = s.protocol := rfl
@[simp] theorem State.storeOctet_phase (b : Byte) : (s.storeOctet b).phase = s.phase := rfl
@[simp] theorem State.storeOctet_writeIdx (b : Byte) : (s.storeOctet b).writeIdx = s.writeIdx + 1 := rfl
@[simp] theorem State.storeOctet_lastProgressMs (b : Byte) : (s.storeOctet b).lastProgressMs = s.lastProgressMs := rfl
@[simp] theorem State.storeOctet_buf (b : Byte) : (s.storeOctet b).buf = s.buf.write s.writeIdx.toNat b := rfl
@[simp] theorem State.storeOctet_header (b : Byte) : (s.storeOctet b).header = s.header := rfl
@[simp] theorem State.storeOctet_ready (b : Byte) : (s.storeOctet b).ready = s.ready := rfl
@[simp] theorem State.storeOctet_busOk (b : Byte) : (s.storeOctet b).busOk = s.busOk := rfl
@[simp] theorem State.storeOctet_temp (b : Byte) : (s.storeOctet b).temp = s.temp := rfl
@[simp] theorem State.storeOctet_pump (b : Byte) : (s.storeOctet b).pump = s.pump := rfl
@[simp] theorem State.storeOctet_relay (b : Byte) : (s.storeOctet b).relay = s.relay := rfl
@[simp] theorem State.storeOctet_tempNum (b : Byte) : (s.storeOctet b).tempNum = s.tempNum := rfl
@[simp] theorem State.storeOctet_pumpNum (b : Byte) : (s.storeOctet b).pumpNum = s.pumpNum := rfl
@[simp] theorem State.storeOctet_relayNum (b : Byte) : (s.storeOctet b).relayNum = s.relayNum := rfl
@[simp] theorem State.storeOctet_errorMask (b : Byte) : (s.storeOctet b).errorMask = s.errorMask := rfl
@[simp] theorem State.storeOctet_systemTimeMinutes (b : Byte) : (s.storeOctet b).systemTimeMinutes = s.systemTimeMinutes := rfl
@[simp] theorem State.storeOctet_heatQuantityWh (b : Byte) : (s.storeOctet b).heatQuantityWh = s.heatQuantityWh := rfl
@[simp] theorem State.storeOctet_systemVariant (b : Byte) : (s.storeOctet b).systemVariant = s.systemVariant := rfl
@[simp] theorem State.storeOctet_opHours (b : Byte) : (s.storeOctet b).opHours = s.opHours := rfl
@[simp] theorem State.storeOctet_km (b : Byte) : (s.storeOctet b).km = s.km := rfl
@[simp] theorem State.storeOctet_ports (b : Byte) : (s.storeOctet b).ports = s.ports := rfl
@[simp] theorem State.storeOctet_wdogRearm (b : Byte) : (s.storeOctet b).wdogRearm = s.wdogRearm := rfl
@[simp] theorem State.storeOctet_env (b : Byte) : (s.storeOctet b).env = s.env := rfl
@[simp] theorem State.storeOctet_resets (b : Byte) : (s.storeOctet b).resets = s.resets := rfl

/-! ### `State.startFrame` -/

@[simp] theorem State.startFrame_protocol (b : Byte) : (s.startFrame b).protocol = s.protocol := rfl
@[simp] theorem State.startFrame_phase (b : Byte) : (s.startFrame b).phase = .receive := rfl
@[simp] theorem State.startFrame_writeIdx (b : Byte) : (s.startFrame b).writeIdx = 1 := rfl
@[simp] theorem State.startFrame_lastProgressMs (b : Byte) : (s.startFrame b).lastProgressMs = s.lastProgressMs := rfl
@[simp] theorem State.startFrame_buf (b : Byte) : (s.startFrame b).buf = s.buf.write 0 b := rfl
@[simp] theorem State.startFrame_header (b : Byte) : (s.startFrame b).header = s.header := rfl
@[simp] theorem State.startFrame_ready (b : Byte) : (s.startFrame b).ready = s.ready := rfl
@[simp] theorem State.startFrame_busOk (b : Byte) : (s.startFrame b).busOk = s.busOk := rfl
@[simp] theorem State.startFrame_temp (b : Byte) : (s.startFrame b).temp = s.temp := rfl
@[simp] theorem State.startFrame_pump (b : Byte) : (s.startFrame b).pump = s.pump := rfl
@[simp] theorem State.startFrame_relay (b : Byte) : (s.startFrame b).relay = s.relay := rfl
@[simp] theorem State.startFrame_tempNum (b : Byte) : (s.startFrame b).tempNum = s.tempNum := rfl
@[simp] theorem State.startFrame_pumpNum (b : Byte) : (s.startFrame b).pumpNum = s.pumpNum := rfl
@[simp] theorem State.startFrame_relayNum (b : Byte) : (s.startFrame b).relayNum = s.relayNum := rfl
@[simp] theorem State.startFrame_errorMask (b : Byte) : (s.startFrame b).errorMask = s.errorMask := rfl
@[simp] theorem State.startFrame_systemTimeMinutes (b : Byte) : (s.startFrame b).systemTimeMinutes = s.systemTimeMinutes := rfl
@[simp] theorem State.startFrame_heatQuantityWh (b : Byte) : (s.startFrame b).heatQuantityWh = s.heatQuantityWh := rfl
@[simp] theorem State.startFrame_systemVariant (b : Byte) : (s.startFrame b).systemVariant = s.systemVariant := rfl
@[simp] theorem State.startFrame_opHours (b : Byte) : (s.startFrame b).opHours = s.opHours := rfl
@[simp] theorem State.startFrame_km (b : Byte) : (s.startFrame b).km = s.km := rfl
@[simp] theorem State.startFrame_ports (b : Byte) : (s.startFrame b).ports = s.ports := rfl
@[simp] theorem State.startFrame_wdogRearm (b : Byte) : (s.startFrame b).wdogRearm = s.wdogRearm := rfl
@[simp] theorem State.startFrame_env (b : Byte) : (s.startFrame b).env = s.env := rfl
@[simp] theorem State.startFrame_resets (b : Byte) : (s.startFrame b).resets = s.resets := rfl

/-! ### `State.storeLast` -/

@[simp] theorem State.storeLast_protocol (b : Byte) : (s.storeLast b).protocol = s.protocol := rfl
@[simp] theorem State.storeLast_phase (b : Byte) : (s.storeLast b).phase = s.phase := rfl
@[simp] theorem State.storeLast_writeIdx (b : Byte) : (s.storeLast b).writeIdx = 255 := rfl
@[simp] theorem State.storeLast_lastProgressMs (b : Byte) : (s.storeLast b).lastProgressMs = s.lastProgressMs := rfl
@[simp] theorem State.storeLast_buf (b : Byte) : (s.storeLast b).buf = s.buf.write 254 b := rfl
@[simp] theorem State.storeLast_header (b : Byte) : (s.storeLast b).header = s.header := rfl
@[simp] theorem State.storeLast_ready (b : Byte) : (s.storeLast b).ready = s.ready := rfl
@[simp] theorem State.storeLast_busOk (b : Byte) : (s.storeLast b).busOk = s.busOk := rfl
@[simp] theorem State.storeLast_temp (b : Byte) : (s.storeLast b).temp = s.temp := rfl
@[simp] theorem State.storeLast_pump (b : Byte) : (s.storeLast b).pump = s.pump := rfl
@[simp] theorem State.storeLast_relay (b : Byte) : (s.storeLast b).relay = s.relay := rfl
@[simp] theorem State.storeLast_tempNum (b : Byte) : (s.storeLast b).tempNum = s.tempNum := rfl
@[simp] theorem State.storeLast_pumpNum (b : Byte) : (s.storeLast b).pumpNum = s.pumpNum := rfl
@[simp] theorem State.storeLast_relayNum (b : Byte) : (s.storeLast b).relayNum = s.relayNum := rfl
@[simp] theorem State.storeLast_errorMask (b : Byte) : (s.storeLast b).errorMask = s.errorMask := rfl
@[simp] theorem State.storeLast_systemTimeMinutes (b : Byte) : (s.storeLast b).systemTimeMinutes = s.systemTimeMinutes := rfl
@[simp] theorem State.storeLast_heatQuantityWh (b : Byte) : (s.storeLast b).heatQuantityWh = s.heatQuantityWh := rfl
@[simp] theorem State.storeLast_systemVariant (b : Byte) : (s.storeLast b).systemVariant = s.systemVariant := rfl
@[simp] theorem State.storeLast_opHours (b : Byte) : (s.storeLast b).opHours = s.opHours := rfl
@[simp] theorem State.storeLast_km (b : Byte) : (s.storeLast b).km = s.km := rfl
@[simp] theorem State.storeLast_ports (b : Byte) : (s.storeLast b).ports = s.ports := rfl
@[simp] theorem State.storeLast_wdogRearm (b : Byte) : (s.storeLast b).wdogRearm = s.wdogRearm := rfl
@[simp] theorem State.storeLast_env (b : Byte) : (s.storeLast b).env = s.env := rfl
@[simp] theorem State.storeLast_resets (b : Byte) : (s.storeLast b).resets = s.resets := rfl

/-! ### `State.storeFourth` -/

@[simp] theorem State.storeFourth_protocol (b : Byte) : (s.storeFourth b).protocol = s.protocol := rfl
@[simp] theorem State.storeFourth_phase (b : Byte) : (s.storeFourth b).phase = s.phase := rfl
@[simp] theorem State.storeFourth_writeIdx (b : Byte) : (s.storeFourth b).writeIdx = 4 := rfl
@[simp] theorem State.storeFourth_lastProgressMs (b : Byte) : (s.storeFourth b).lastProgressMs = s.lastProgressMs := rfl
@[simp] theorem State.storeFourth_buf (b : Byte) : (s.storeFourth b).buf = s.buf.write 3 b := rfl
@[simp] theorem State.storeFourth_header (b : Byte) : (s.storeFourth b).header = s.header := rfl
@[simp] theorem State.storeFourth_ready (b : Byte) : (s.storeFourth b).ready = s.ready := rfl
@[simp] theorem State.storeFourth_busOk (b : Byte) : (s.storeFourth b).busOk = s.busOk := rfl
@[simp] theorem State.storeFourth_temp (b : Byte) : (s.storeFourth b).temp = s.temp := rfl
@[simp] theorem State.storeFourth_pump (b : Byte) : (s.storeFourth b).pump = s.pump := rfl
@[simp] theorem State.storeFourth_relay (b : Byte) : (s.storeFourth b).relay = s.relay := rfl
@[simp] theorem State.storeFourth_tempNum (b : Byte) : (s.storeFourth b).tempNum = s.tempNum := rfl
@[simp] theorem State.storeFourth_pumpNum (b : Byte) : (s.storeFourth b).pumpNum = s.pumpNum := rfl
@[simp] theorem State.storeFourth_relayNum (b : Byte) : (s.storeFourth b).relayNum = s.relayNum := rfl
@[simp] theorem State.storeFourth_errorMask (b : Byte) : (s.storeFourth b).errorMask = s.errorMask := rfl
@[simp] theorem State.storeFourth_systemTimeMinutes (b : Byte) : (s.storeFourth b).systemTimeMinutes = s.systemTimeMinutes := rfl
@[simp] theorem State.storeFourth_heatQuantityWh (b : Byte) : (s.storeFourth b).heatQuantityWh = s.heatQuantityWh := rfl
@[simp] theorem State.storeFourth_systemVariant (b : Byte) : (s.storeFourth b).systemVariant = s.systemVariant := rfl
@[simp] theorem State.storeFourth_opHours (b : Byte) : (s.storeFourth b).opHours = s.opHours := rfl
@[simp] theorem State.storeFourth_km (b : Byte) : (s.storeFourth b).km = s.km := rfl
@[simp] theorem State.storeFourth_ports (b : Byte) : (s.storeFourth b).ports = s.ports := rfl
@[simp] theorem State.storeFourth_wdogRearm (b : Byte) : (s.storeFourth b).wdogRearm = s.wdogRearm := rfl
@[simp] theorem State.storeFourth_env (b : Byte) : (s.storeFourth b).env = s.env := rfl
@[simp] theorem State.storeFourth_resets (b : Byte) : (s.storeFourth b).resets = s.resets := rfl

/-! ### `State.raiseError` -/

@[simp] theorem State.raiseError_protocol (c : Cause) : (s.raiseError c).protocol = s.protocol := rfl
@[simp] theorem State.raiseError_phase (c : Cause) : (s.raiseError c).phase = .error := rfl
@[simp] theorem State.raiseError_writeIdx (c : Cause) : (s.raiseError c).writeIdx = s.writeIdx := rfl
@[simp] theorem State.raiseError_lastProgressMs (c : Cause) : (s.raiseError c).lastProgressMs = s.lastProgressMs := rfl
@[simp] theorem State.raiseError_buf (c : Cause) : (s.raiseError c).buf = s.buf := rfl
@[simp] theorem State.raiseError_header (c : Cause) : (s.raiseError c).header = s.header := rfl
@[simp] theorem State.raiseError_ready (c : Cause) : (s.raiseError c).ready = s.ready := rfl
@[simp] theorem State.raiseError_busOk (c : Cause) : (s.raiseError c).busOk = s.busOk := rfl
@[simp] theorem State.raiseError_temp (c : Cause) : (s.raiseError c).temp = s.temp := rfl
@[simp] theorem State.raiseError_pump (c : Cause) : (s.raiseError c).pump = s.pump := rfl
@[simp] theorem State.raiseError_relay (c : Cause) : (s.raiseError c).relay = s.relay := rfl
@[simp] theorem State.raiseError_tempNum (c : Cause) : (s.raiseError c).tempNum = s.tempNum := rfl
@[simp] theorem State.raiseError_pumpNum (c : Cause) : (s.raiseError c).pumpNum = s.pumpNum := rfl
@[simp] theorem State.raiseError_relayNum (c : Cause) : (s.raiseError c).relayNum = s.relayNum := rfl
@[simp] theorem State.raiseError_errorMask (c : Cause) : (s.raiseError c).errorMask = s.errorMask := rfl
@[simp] theorem State.raiseError_systemTimeMinutes (c : Cause) : (s.raiseError c).systemTimeMinutes = s.systemTimeMinutes := rfl
@[simp] theorem State.raiseError_heatQuantityWh (c : Cause) : (s.raiseError c).heatQuantityWh = s.heatQuantityWh := rfl
@[simp] theorem State.raiseError_systemVariant (c : Cause) : (s.raiseError c).systemVariant = s.systemVariant := rfl
@[simp] theorem State.raiseError_opHours (c : Cause) : (s.raiseError c).opHours = s.opHours := rfl
@[simp] theorem State.raiseError_km (c : Cause) : (s.raiseError c).km = s.km := rfl
@[simp] theorem State.raiseError_ports (c : Cause) : (s.raiseError c).ports = s.ports := rfl
@[simp] theorem State.raiseError_wdogRearm (c : Cause) : (s.raiseError c).wdogRearm = s.wdogRearm := rfl
@[simp] theorem State.raiseError_env (c : Cause) : (s.raiseError c).env = s.env := rfl
@[simp] theorem State.raiseError_resets (c : Cause) : (s.raiseError c).resets = s.resets := rfl

/-! ### `State.leaveError` -/

@[simp] theorem State.leaveError_protocol : (s.leaveError).protocol = s.protocol := rfl
@[simp] theorem State.leaveError_phase : (s.leaveError).phase = .sync := rfl
@[simp] theorem State.leaveError_writeIdx : (s.leaveError).writeIdx = 0 := rfl
@[simp] theorem State.leaveError_lastProgressMs : (s.leaveError).lastProgressMs = s.lastProgressMs := rfl
@[simp] theorem State.leaveError_buf : (s.leaveError).buf = s.buf := rfl
@[simp] theorem State.leaveError_header : (s.leaveError).header = s.header := rfl
@[simp] theorem State.leaveError_ready : (s.leaveError).ready = false := rfl
@[simp] theorem State.leaveError_busOk : (s.leaveError).busOk = false := rfl
@[simp] theorem State.leaveError_temp : (s.leaveError).temp = s.temp := rfl
@[simp] theorem State.leaveError_pump : (s.leaveError).pump = s.pump := rfl
@[simp] theorem State.leaveError_relay : (s.leaveError).relay = s.relay := rfl
@[simp] theorem State.leaveError_tempNum : (s.leaveError).tempNum = s.tempNum := rfl
@[simp] theorem State.leaveError_pumpNum : (s.leaveError).pumpNum = s.pumpNum := rfl
@[simp] theorem State.leaveError_relayNum : (s.leaveError).relayNum = s.relayNum := rfl
@[simp] theorem State.leaveError_errorMask : (s.leaveError).errorMask = s.errorMask := rfl
@[simp] theorem State.leaveError_systemTimeMinutes : (s.leaveError).systemTimeMinutes = s.systemTimeMinutes := rfl
@[simp] theorem State.leaveError_heatQuantityWh : (s.leaveError).heatQuantityWh = s.heatQuantityWh := rfl
@[simp] theorem State.leaveError_systemVariant : (s.leaveError).systemVariant = s.systemVariant := rfl
@[simp] theorem State.leaveError_opHours : (s.leaveError).opHours = s.opHours := rfl
@[simp] theorem State.leaveError_km : (s.leaveError).km = s.km := rfl
@[simp] theorem State.leaveError_ports : (s.leaveError).ports = s.ports := rfl
@[simp] theorem State.leaveError_wdogRearm : (s.leaveError).wdogRearm = s.wdogRearm := rfl
@[simp] theorem State.leaveError_env : (s.leaveError).env = s.env := rfl
@[simp] theorem State.leaveError_resets : (s.leaveError).resets = s.resets := rfl

/-! ### `State.enterDecode` -/

@[simp] theorem State.enterDecode_protocol : (s.enterDecode).protocol = s.protocol := rfl
@[simp] theorem State.enterDecode_phase : (s.enterDecode).phase = s.phase := rfl
@[simp] theorem State.enterDecode_writeIdx : (s.enterDecode).writeIdx = s.writeIdx := rfl
@[simp] theorem State.enterDecode_lastProgressMs : (s.enterDecode).lastProgressMs = s.ports.nowMs := rfl
@[simp] theorem State.enterDecode_buf : (s.enterDecode).buf = s.buf := rfl
@[simp] theorem State.enterDecode_header : (s.enterDecode).header = s.header := rfl
@[simp] theorem State.enterDecode_ready : (s.enterDecode).ready = s.ready := rfl
@[simp] theorem State.enterDecode_busOk : (s.enterDecode).busOk = true := rfl
@[simp] theorem State.enterDecode_temp : (s.enterDecode).temp = s.temp := rfl
@[simp] theorem State.enterDecode_pump : (s.enterDecode).pump = s.pump := rfl
@[simp] theorem State.enterDecode_relay : (s.enterDecode).relay = s.relay := rfl
@[simp] theorem State.enterDecode_tempNum : (s.enterDecode).tempNum = s.tempNum := rfl
@[simp] theorem State.enterDecode_pumpNum : (s.enterDecode).pumpNum = s.pumpNum := rfl
@[simp] theorem State.enterDecode_relayNum : (s.enterDecode).relayNum = s.relayNum := rfl
@[simp] theorem State.enterDecode_errorMask : (s.enterDecode).errorMask = s.errorMask := rfl
@[simp] theorem State.enterDecode_systemTimeMinutes : (s.enterDecode).systemTimeMinutes = s.systemTimeMinutes := rfl
@[simp] theorem State.enterDecode_heatQuantityWh : (s.enterDecode).heatQuantityWh = s.heatQuantityWh := rfl
@[simp] theorem State.enterDecode_systemVariant : (s.enterDecode).systemVariant = s.systemVariant := rfl
@[simp] theorem State.enterDecode_opHours : (s.enterDecode).opHours = s.opHours := rfl
@[simp] theorem State.enterDecode_km : (s.enterDecode).km = s.km := rfl
@[simp] theorem State.enterDecode_ports : (s.enterDecode).ports = s.ports := rfl
@[simp] theorem State.enterDecode_wdogRearm : (s.enterDecode).wdogRearm = s.wdogRearm := rfl
@[simp] theorem State.enterDecode_env : (s.enterDecode).env = s.env := rfl
@[simp] theorem State.enterDecode_resets : (s.enterDecode).resets = s.resets := rfl

/-! ### `State.leaveDecode` -/

@[simp] theorem State.leaveDecode_protocol : (s.leaveDecode).protocol = s.protocol := rfl
@[simp] theorem State.leaveDecode_phase : (s.leaveDecode).phase = .sync := rfl
@[simp] theorem State.leaveDecode_writeIdx : (s.leaveDecode).writeIdx = 0 := rfl
@[simp] theorem State.leaveDecode_lastProgressMs : (s.leaveDecode).lastProgressMs = s.lastProgressMs := rfl
@[simp] theorem State.leaveDecode_buf : (s.leaveDecode).buf = s.buf := rfl
@[simp] theorem State.leaveDecode_header : (s.leaveDecode).header = s.header := rfl
@[simp] theorem State.leaveDecode_ready : (s.leaveDecode).ready = s.ready := rfl
@[simp] theorem State.leaveDecode_busOk : (s.leaveDecode).busOk = s.busOk := rfl
@[simp] theorem State.leaveDecode_temp : (s.leaveDecode).temp = s.temp := rfl
@[simp] theorem State.leaveDecode_pump : (s.leaveDecode).pump = s.pump := rfl
@[simp] theorem State.leaveDecode_relay : (s.leaveDecode).relay = s.relay := rfl
@[simp] theorem State.leaveDecode_tempNum : (s.leaveDecode).tempNum = s.tempNum := rfl
@[simp] theorem State.leaveDecode_pumpNum : (s.leaveDecode).pumpNum = s.pumpNum := rfl
@[simp] theorem State.leaveDecode_relayNum : (s.leaveDecode).relayNum = s.relayNum := rfl
@[simp] theorem State.leaveDecode_errorMask : (s.leaveDecode).errorMask = s.errorMask := rfl
@[simp] theorem State.leaveDecode_systemTimeMinutes : (s.leaveDecode).systemTimeMinutes = s.systemTimeMinutes := rfl
@[simp] theorem State.leaveDecode_heatQuantityWh : (s.leaveDecode).heatQuantityWh = s.heatQuantityWh := rfl
@[simp] theorem State.leaveDecode_systemVariant : (s.leaveDecode).systemVariant = s.systemVariant := rfl
@[simp] theorem State.leaveDecode_opHours : (s.leaveDecode).opHours = s.opHours := rfl
@[simp] theorem State.leaveDecode_km : (s.leaveDecode).km = s.km := rfl
@[simp] theorem State.leaveDecode_ports : (s.leaveDecode).ports = s.ports := rfl
@[simp] theorem State.leaveDecode_wdogRearm : (s.leaveDecode).wdogRearm = s.wdogRearm := rfl
@[simp] theorem State.leaveDecode_env : (s.leaveDecode).env = s.env := rfl
@[simp] theorem State.leaveDecode_resets : (s.leaveDecode).resets = s.resets := rfl

/-! ### `State.setTemp` -/

@[simp] theorem State.setTemp_protocol (i : Fin 32) (v : Half) : (s.setTemp i v).protocol = s.protocol := rfl
@[simp] theorem State.setTemp_phase (i : Fin 32) (v : Half) : (s.setTemp i v).phase = s.phase := rfl
@[simp] theorem State.setTemp_writeIdx (i : Fin 32) (v : Half) : (s.setTemp i v).writeIdx = s.writeIdx := rfl
@[simp] theorem State.setTemp_lastProgressMs (i : Fin 32) (v : Half) : (s.setTemp i v).lastProgressMs = s.lastProgressMs := rfl
@[simp] theorem State.setTemp_buf (i : Fin 32) (v : Half) : (s.setTemp i v).buf = s.buf := rfl
@[simp] theorem State.setTemp_header (i : Fin 32) (v : Half) : (s.setTemp i v).header = s.header := rfl
@[simp] theorem State.setTemp_ready (i : Fin 32) (v : Half) : (s.setTemp i v).ready = s.ready := rfl
@[simp] theorem State.setTemp_busOk (i : Fin 32) (v : Half) : (s.setTemp i v).busOk = s.busOk := rfl
@[simp] theorem State.setTemp_temp (i : Fin 32) (v : Half) : (s.setTemp i v).temp = s.temp.set i.val v i.isLt := rfl
@[simp] theorem State.setTemp_pump (i : Fin 32) (v : Half) : (s.setTemp i v).pump = s.pump := rfl
@[simp] theorem State.setTemp_relay (i : Fin 32) (v : Half) : (s.setTemp i v).relay = s.relay := rfl
@[simp] theorem State.setTemp_tempNum (i : Fin 32) (v : Half) : (s.setTemp i v).tempNum = s.tempNum := rfl
@[simp] theorem State.setTemp_pumpNum (i : Fin 32) (v : Half) : (s.setTemp i v).pumpNum = s.pumpNum := rfl
@[simp] theorem State.setTemp_relayNum (i : Fin 32) (v : Half) : (s.setTemp i v).relayNum = s.relayNum := rfl
@[simp] theorem State.setTemp_errorMask (i : Fin 32) (v : Half) : (s.setTemp i v).errorMask = s.errorMask := rfl
@[simp] theorem State.setTemp_systemTimeMinutes (i : Fin 32) (v : Half) : (s.setTemp i v).systemTimeMinutes = s.systemTimeMinutes := rfl
@[simp] theorem State.setTemp_heatQuantityWh (i : Fin 32) (v : Half) : (s.setTemp i v).heatQuantityWh = s.heatQuantityWh := rfl
@[simp] theorem State.setTemp_systemVariant (i : Fin 32) (v : Half) : (s.setTemp i v).systemVariant = s.systemVariant := rfl
@[simp] theorem State.setTemp_opHours (i : Fin 32) (v : Half) : (s.setTemp i v).opHours = s.opHours := rfl
@[simp] theorem State.setTemp_km (i : Fin 32) (v : Half) : (s.setTemp i v).km = s.km := rfl
@[simp] theorem State.setTemp_ports (i : Fin 32) (v : Half) : (s.setTemp i v).ports = s.ports := rfl
@[simp] theorem State.setTemp_wdogRearm (i : Fin 32) (v : Half) : (s.setTemp i v).wdogRearm = s.wdogRearm := rfl
@[simp] theorem State.setTemp_env (i : Fin 32) (v : Half) : (s.setTemp i v).env = s.env := rfl
@[simp] theorem State.setTemp_resets (i : Fin 32) (v : Half) : (s.setTemp i v).resets = s.resets := rfl

/-! ### `State.setPump` -/

@[simp] theorem State.setPump_protocol (i : Fin 32) (v : Byte) : (s.setPump i v).protocol = s.protocol := rfl
@[simp] theorem State.setPump_phase (i : Fin 32) (v : Byte) : (s.setPump i v).phase = s.phase := rfl
@[simp] theorem State.setPump_writeIdx (i : Fin 32) (v : Byte) : (s.setPump i v).writeIdx = s.writeIdx := rfl
@[simp] theorem State.setPump_lastProgressMs (i : Fin 32) (v : Byte) : (s.setPump i v).lastProgressMs = s.lastProgressMs := rfl
@[simp] theorem State.setPump_buf (i : Fin 32) (v : Byte) : (s.setPump i v).buf = s.buf := rfl
@[simp] theorem State.setPump_header (i : Fin 32) (v : Byte) : (s.setPump i v).header = s.header := rfl
@[simp] theorem State.setPump_ready (i : Fin 32) (v : Byte) : (s.setPump i v).ready = s.ready := rfl
@[simp] theorem State.setPump_busOk (i : Fin 32) (v : Byte) : (s.setPump i v).busOk = s.busOk := rfl
@[simp] theorem State.setPump_temp (i : Fin 32) (v : Byte) : (s.setPump i v).temp = s.temp := rfl
@[simp] theorem State.setPump_pump (i : Fin 32) (v : Byte) : (s.setPump i v).pump = s.pump.set i.val v i.isLt := rfl
@[simp] theorem State.setPump_relay (i : Fin 32) (v : Byte) : (s.setPump i v).relay = s.relay := rfl
@[simp] theorem State.setPump_tempNum (i : Fin 32) (v : Byte) : (s.setPump i v).tempNum = s.tempNum := rfl
@[simp] theorem State.setPump_pumpNum (i : Fin 32) (v : Byte) : (s.setPump i v).pumpNum = s.pumpNum := rfl
@[simp] theorem State.setPump_relayNum (i : Fin 32) (v : Byte) : (s.setPump i v).relayNum = s.relayNum := rfl
@[simp] theorem State.setPump_errorMask (i : Fin 32) (v : Byte) : (s.setPump i v).errorMask = s.errorMask := rfl
@[simp] theorem State.setPump_systemTimeMinutes (i : Fin 32) (v : Byte) : (s.setPump i v).systemTimeMinutes = s.systemTimeMinutes := rfl
@[simp] theorem State.setPump_heatQuantityWh (i : Fin 32) (v : Byte) : (s.setPump i v).heatQuantityWh = s.heatQuantityWh := rfl
@[simp] theorem State.setPump_systemVariant (i : Fin 32) (v : Byte) : (s.setPump i v).systemVariant = s.systemVariant := rfl
@[simp] theorem State.setPump_opHours (i : Fin 32) (v : Byte) : (s.setPump i v).opHours = s.opHours := rfl
@[simp] theorem State.setPump_km (i : Fin 32) (v : Byte) : (s.setPump i v).km = s.km := rfl
@[simp] theorem State.setPump_ports (i : Fin 32) (v : Byte) : (s.setPump i v).ports = s.ports := rfl
@[simp] theorem State.setPump_wdogRearm (i : Fin 32) (v : Byte) : (s.setPump i v).wdogRearm = s.wdogRearm := rfl
@[simp] theorem State.setPump_env (i : Fin 32) (v : Byte) : (s.setPump i v).env = s.env := rfl
@[simp] theorem State.setPump_resets (i : Fin 32) (v : Byte) : (s.setPump i v).resets = s.resets := rfl

/-! ### `State.setRelay` -/

@[simp] theorem State.setRelay_protocol (i : Fin 32) (v : Bool) : (s.setRelay i v).protocol = s.protocol := rfl
@[simp] theorem State.setRelay_phase (i : Fin 32) (v : Bool) : (s.setRelay i v).phase = s.phase := rfl
@[simp] theorem State.setRelay_writeIdx (i : Fin 32) (v : Bool) : (s.setRelay i v).writeIdx = s.writeIdx := rfl
@[simp] theorem State.setRelay_lastProgressMs (i : Fin 32) (v : Bool) : (s.setRelay i v).lastProgressMs = s.lastProgressMs := rfl
@[simp] theorem State.setRelay_buf (i : Fin 32) (v : Bool) : (s.setRelay i v).buf = s.buf := rfl
@[simp] theorem State.setRelay_header (i : Fin 32) (v : Bool) : (s.setRelay i v).header = s.header := rfl
@[simp] theorem State.setRelay_ready (i : Fin 32) (v : Bool) : (s.setRelay i v).ready = s.ready := rfl
@[simp] theorem State.setRelay_busOk (i : Fin 32) (v : Bool) : (s.setRelay i v).busOk = s.busOk := rfl
@[simp] theorem State.setRelay_temp (i : Fin 32) (v : Bool) : (s.setRelay i v).temp = s.temp := rfl
@[simp] theorem State.setRelay_pump (i : Fin 32) (v : Bool) : (s.setRelay i v).pump = s.pump := rfl
@[simp] theorem State.setRelay_relay (i : Fin 32) (v : Bool) : (s.setRelay i v).relay = s.relay.set i.val v i.isLt := rfl
@[simp] theorem State.setRelay_tempNum (i : Fin 32) (v : Bool) : (s.setRelay i v).tempNum = s.tempNum := rfl
@[simp] theorem State.setRelay_pumpNum (i : Fin 32) (v : Bool) : (s.setRelay i v).pumpNum = s.pumpNum := rfl
@[simp] theorem State.setRelay_relayNum (i : Fin 32) (v : Bool) : (s.setRelay i v).relayNum = s.relayNum := rfl
@[simp] theorem State.setRelay_errorMask (i : Fin 32) (v : Bool) : (s.setRelay i v).errorMask = s.errorMask := rfl
@[simp] theorem State.setRelay_systemTimeMinutes (i : Fin 32) (v : Bool) : (s.setRelay i v).systemTimeMinutes = s.systemTimeMinutes := rfl
@[simp] theorem State.setRelay_heatQuantityWh (i : Fin 32) (v : Bool) : (s.setRelay i v).heatQuantityWh = s.heatQuantityWh := rfl
@[simp] theorem State.setRelay_systemVariant (i : Fin 32) (v : Bool) : (s.setRelay i v).systemVariant = s.systemVariant := rfl
@[simp] theorem State.setRelay_opHours (i : Fin 32) (v : Bool) : (s.setRelay i v).opHours = s.opHours := rfl
@[simp] theorem State.setRelay_km (i : Fin 32) (v : Bool) : (s.setRelay i v).km = s.km := rfl
@[simp] theorem State.setRelay_ports (i : Fin 32) (v : Bool) : (s.setRelay i v).ports = s.ports := rfl
@[simp] theorem State.setRelay_wdogRearm (i : Fin 32) (v : Bool) : (s.setRelay i v).wdogRearm = s.wdogRearm := rfl
@[simp] theorem State.setRelay_env (i : Fin 32) (v : Bool) : (s.setRelay i v).env = s.env := rfl
@[simp] theorem State.setRelay_resets (i : Fin 32) (v : Bool) : (s.setRelay i v).resets = s.resets := rfl

/-! ### `State.setOpHours` -/

@[simp] theorem State.setOpHours_protocol (i : Fin 8) (v : Word) : (s.setOpHours i v).protocol = s.protocol := rfl
@[simp] theorem State.setOpHours_phase (i : Fin 8) (v : Word) : (s.setOpHours i v).phase = s.phase := rfl
@[simp] theorem State.setOpHours_writeIdx (i : Fin 8) (v : Word) : (s.setOpHours i v).writeIdx = s.writeIdx := rfl
@[simp] theorem State.setOpHours_lastProgressMs (i : Fin 8) (v : Word) : (s.setOpHours i v).lastProgressMs = s.lastProgressMs := rfl
@[simp] theorem State.setOpHours_buf (i : Fin 8) (v : Word) : (s.setOpHours i v).buf = s.buf := rfl
@[simp] theorem State.setOpHours_header (i : Fin 8) (v : Word) : (s.setOpHours i v).header = s.header := rfl
@[simp] theorem State.setOpHours_ready (i : Fin 8) (v : Word) : (s.setOpHours i v).ready = s.ready := rfl
@[simp] theorem State.setOpHours_busOk (i : Fin 8) (v : Word) : (s.setOpHours i v).busOk = s.busOk := rfl
@[simp] theorem State.setOpHours_temp (i : Fin 8) (v : Word) : (s.setOpHours i v).temp = s.temp := rfl
@[simp] theorem State.setOpHours_pump (i : Fin 8) (v : Word) : (s.setOpHours i v).pump = s.pump := rfl
@[simp] theorem State.setOpHours_relay (i : Fin 8) (v : Word) : (s.setOpHours i v).relay = s.relay := rfl
@[simp] theorem State.setOpHours_tempNum (i : Fin 8) (v : Word) : (s.setOpHours i v).tempNum = s.tempNum := rfl
@[simp] theorem State.setOpHours_pumpNum (i : Fin 8) (v : Word) : (s.setOpHours i v).pumpNum = s.pumpNum := rfl
@[simp] theorem State.setOpHours_relayNum (i : Fin 8) (v : Word) : (s.setOpHours i v).relayNum = s.relayNum := rfl
@[simp] theorem State.setOpHours_errorMask (i : Fin 8) (v : Word) : (s.setOpHours i v).errorMask = s.errorMask := rfl
@[simp] theorem State.setOpHours_systemTimeMinutes (i : Fin 8) (v : Word) : (s.setOpHours i v).systemTimeMinutes = s.systemTimeMinutes := rfl
@[simp] theorem State.setOpHours_heatQuantityWh (i : Fin 8) (v : Word) : (s.setOpHours i v).heatQuantityWh = s.heatQuantityWh := rfl
@[simp] theorem State.setOpHours_systemVariant (i : Fin 8) (v : Word) : (s.setOpHours i v).systemVariant = s.systemVariant := rfl
@[simp] theorem State.setOpHours_opHours (i : Fin 8) (v : Word) : (s.setOpHours i v).opHours = s.opHours.set i.val v i.isLt := rfl
@[simp] theorem State.setOpHours_km (i : Fin 8) (v : Word) : (s.setOpHours i v).km = s.km := rfl
@[simp] theorem State.setOpHours_ports (i : Fin 8) (v : Word) : (s.setOpHours i v).ports = s.ports := rfl
@[simp] theorem State.setOpHours_wdogRearm (i : Fin 8) (v : Word) : (s.setOpHours i v).wdogRearm = s.wdogRearm := rfl
@[simp] theorem State.setOpHours_env (i : Fin 8) (v : Word) : (s.setOpHours i v).env = s.env := rfl
@[simp] theorem State.setOpHours_resets (i : Fin 8) (v : Word) : (s.setOpHours i v).resets = s.resets := rfl

/-! ### `State.setCounts` -/

@[simp] theorem State.setCounts_protocol (x y z : BitVec 8) : (s.setCounts x y z).protocol = s.protocol := rfl
@[simp] theorem State.setCounts_phase (x y z : BitVec 8) : (s.setCounts x y z).phase = s.phase := rfl
@[simp] theorem State.setCounts_writeIdx (x y z : BitVec 8) : (s.setCounts x y z).writeIdx = s.writeIdx := rfl
@[simp] theorem State.setCounts_lastProgressMs (x y z : BitVec 8) : (s.setCounts x y z).lastProgressMs = s.lastProgressMs := rfl
@[simp] theorem State.setCounts_buf (x y z : BitVec 8) : (s.setCounts x y z).buf = s.buf := rfl
@[simp] theorem State.setCounts_header (x y z : BitVec 8) : (s.setCounts x y z).header = s.header := rfl
@[simp] theorem State.setCounts_ready (x y z : BitVec 8) : (s.setCounts x y z).ready = s.ready := rfl
@[simp] theorem State.setCounts_busOk (x y z : BitVec 8) : (s.setCounts x y z).busOk = s.busOk := rfl
@[simp] theorem State.setCounts_temp (x y z : BitVec 8) : (s.setCounts x y z).temp = s.temp := rfl
@[simp] theorem State.setCounts_pump (x y z : BitVec 8) : (s.setCounts x y z).pump = s.pump := rfl
@[simp] theorem State.setCounts_relay (x y z : BitVec 8) : (s.setCounts x y z).relay = s.relay := rfl
@[simp] theorem State.setCounts_tempNum (x y z : BitVec 8) : (s.setCounts x y z).tempNum = x := rfl
@[simp] theorem State.setCounts_pumpNum (x y z : BitVec 8) : (s.setCounts x y z).pumpNum = y := rfl
@[simp] theorem State.setCounts_relayNum (x y z : BitVec 8) : (s.setCounts x y z).relayNum = z := rfl
@[simp] theorem State.setCounts_errorMask (x y z : BitVec 8) : (s.setCounts x y z).errorMask = s.errorMask := rfl
@[simp] theorem State.setCounts_systemTimeMinutes (x y z : BitVec 8) : (s.setCounts x y z).systemTimeMinutes = s.systemTimeMinutes := rfl
@[simp] theorem State.setCounts_heatQuantityWh (x y z : BitVec 8) : (s.setCounts x y z).heatQuantityWh = s.heatQuantityWh := rfl
@[simp] theorem State.setCounts_systemVariant (x y z : BitVec 8) : (s.setCounts x y z).systemVariant = s.systemVariant := rfl
@[simp] theorem State.setCounts_opHours (x y z : BitVec 8) : (s.setCounts x y z).opHours = s.opHours := rfl
@[simp] theorem State.setCounts_km (x y z : BitVec 8) : (s.setCounts x y z).km = s.km := rfl
@[simp] theorem State.setCounts_ports (x y z : BitVec 8) : (s.setCounts x y z).ports = s.ports := rfl
@[simp] theorem State.setCounts_wdogRearm (x y z : BitVec 8) : (s.setCounts x y z).wdogRearm = s.wdogRearm := rfl
@[simp] theorem State.setCounts_env (x y z : BitVec 8) : (s.setCounts x y z).env = s.env := rfl
@[simp] theorem State.setCounts_resets (x y z : BitVec 8) : (s.setCounts x y z).resets = s.resets := rfl

/-! ### `State.decodeHeader` -/

@[simp] theorem State.decodeHeader_protocol : (s.decodeHeader).protocol = s.protocol := rfl
@[simp] theorem State.decodeHeader_phase : (s.decodeHeader).phase = s.phase := rfl
@[simp] theorem State.decodeHeader_writeIdx : (s.decodeHeader).writeIdx = s.writeIdx := rfl
@[simp] theorem State.decodeHeader_lastProgressMs : (s.decodeHeader).lastProgressMs = s.lastProgressMs := rfl
@[simp] theorem State.decodeHeader_buf : (s.decodeHeader).buf = s.buf := rfl
@[simp] theorem State.decodeHeader_header : (s.decodeHeader).header = headerOf s.octet := rfl
@[simp] theorem State.decodeHeader_ready : (s.decodeHeader).ready = s.ready := rfl
@[simp] theorem State.decodeHeader_busOk : (s.decodeHeader).busOk = s.busOk := rfl
@[simp] theorem State.decodeHeader_temp : (s.decodeHeader).temp = s.temp := rfl
@[simp] theorem State.decodeHeader_pump : (s.decodeHeader).pump = s.pump := rfl
@[simp] theorem State.decodeHeader_relay : (s.decodeHeader).relay = s.relay := rfl
@[simp] theorem State.decodeHeader_tempNum : (s.decodeHeader).tempNum = s.tempNum := rfl
@[simp] theorem State.decodeHeader_pumpNum : (s.decodeHeader).pumpNum = s.pumpNum := rfl
@[simp] theorem State.decodeHeader_relayNum : (s.decodeHeader).relayNum = s.relayNum := rfl
@[simp] theorem State.decodeHeader_errorMask : (s.decodeHeader).errorMask = s.errorMask := rfl
@[simp] theorem State.decodeHeader_systemTimeMinutes : (s.decodeHeader).systemTimeMinutes = s.systemTimeMinutes := rfl
@[simp] theorem State.decodeHeader_heatQuantityWh : (s.decodeHeader).heatQuantityWh = s.heatQuantityWh := rfl
@[simp] theorem State.decodeHeader_systemVariant : (s.decodeHeader).systemVariant = s.systemVariant := rfl
@[simp] theorem State.decodeHeader_opHours : (s.decodeHeader).opHours = s.opHours := rfl
@[simp] theorem State.decodeHeader_km : (s.decodeHeader).km = s.km := rfl
@[simp] theorem State.decodeHeader_ports : (s.decodeHeader).ports = s.ports := rfl
@[simp] theorem State.decodeHeader_wdogRearm : (s.decodeHeader).wdogRearm = s.wdogRearm := rfl
@[simp] theorem State.decodeHeader_env : (s.decodeHeader).env = s.env := rfl
@[simp] theorem State.decodeHeader_resets : (s.decodeHeader).resets = s.resets := rfl

end Sys2Proof.Machine
end

