-- ==== Sys2Proof/Laws/Buffer.lean ====
section
/-! SUPPORT. The frame buffer: reading after writing, the canonical form, and reading one octet of a state after each
update. -/

namespace Sys2Proof.Machine

/-! ### Lists of cells -/

@[simp] theorem FrameBuffer.read?_nil (a : Nat) : FrameBuffer.read? [] a = none := rfl

theorem FrameBuffer.read?_cons (c : Nat × Byte) (m : FrameBuffer) (a : Nat) :
    FrameBuffer.read? (c :: m) a = if c.1 = a then some c.2 else FrameBuffer.read? m a := rfl

theorem FrameBuffer.read?_write_self (m : FrameBuffer) (a : Nat) (v : Byte) : (m.write a v).read? a = some v := by
  induction m with
  | nil => simp [FrameBuffer.write, FrameBuffer.read?]
  | cons c m ih =>
    obtain ⟨k, w⟩ := c
    simp only [FrameBuffer.write]
    split
    · simp [FrameBuffer.read?]
    · split
      · simp [FrameBuffer.read?]
      · simp [FrameBuffer.read?, *]

theorem FrameBuffer.read?_write_ne {m : FrameBuffer} {a x : Nat} {v : Byte} (h : x ≠ a) :
    (m.write a v).read? x = m.read? x := by
  induction m with
  | nil => simp [FrameBuffer.write, FrameBuffer.read?, h.symm]
  | cons c m ih =>
    obtain ⟨k, w⟩ := c
    simp only [FrameBuffer.write]
    split
    · simp [FrameBuffer.read?, h.symm]
    · split
      · next hk => subst hk; simp [FrameBuffer.read?, h.symm]
      · simp only [FrameBuffer.read?, ih]

/-- Reading after one write. -/
theorem FrameBuffer.read?_write (m : FrameBuffer) (a x : Nat) (v : Byte) :
    (m.write a v).read? x = if x = a then some v else m.read? x := by
  split
  · next h => subst h; exact FrameBuffer.read?_write_self ..
  · next h => exact FrameBuffer.read?_write_ne h

theorem FrameBuffer.sortedFrom_mono {m : FrameBuffer} {lo lo' : Nat} (h : lo' ≤ lo)
    (hm : FrameBuffer.sortedFrom lo m = true) : FrameBuffer.sortedFrom lo' m = true := by
  cases m with
  | nil => rfl
  | cons c m =>
    simp only [FrameBuffer.sortedFrom, Bool.and_eq_true, decide_eq_true_eq] at *
    exact ⟨⟨Nat.le_trans h hm.1.1, hm.1.2⟩, hm.2⟩

theorem FrameBuffer.sortedFrom_write {m : FrameBuffer} {lo a : Nat} {v : Byte}
    (hm : FrameBuffer.sortedFrom lo m = true) (hlo : lo ≤ a) (ha : a < Config.bufSize) :
    FrameBuffer.sortedFrom lo (m.write a v) = true := by
  induction m generalizing lo with
  | nil => simp [FrameBuffer.write, FrameBuffer.sortedFrom, hlo, ha]
  | cons c m ih =>
    obtain ⟨k, w⟩ := c
    simp only [FrameBuffer.sortedFrom, Bool.and_eq_true, decide_eq_true_eq] at hm
    obtain ⟨⟨h1, h2⟩, h3⟩ := hm
    simp only [FrameBuffer.write]
    split
    · simp [FrameBuffer.sortedFrom, *]
    · split
      · next hk => subst hk; simp [FrameBuffer.sortedFrom, *]
      · have := ih (lo := k + 1) h3 (by omega)
        simp [FrameBuffer.sortedFrom, *]

/-- Storing at an index below 255 keeps the canonical form (20_memory.md R50). -/
theorem FrameBuffer.wf_write {m : FrameBuffer} {a : Nat} {v : Byte} (hm : m.wf = true) (ha : a < Config.bufSize) :
    (m.write a v).wf = true :=
  FrameBuffer.sortedFrom_write hm (Nat.zero_le a) ha

theorem FrameBuffer.read?_of_lt {m : FrameBuffer} {lo a : Nat} (h : FrameBuffer.sortedFrom lo m = true)
    (ha : a < lo) : m.read? a = none := by
  induction m generalizing lo with
  | nil => rfl
  | cons c m ih =>
    obtain ⟨k, w⟩ := c
    simp only [FrameBuffer.sortedFrom, Bool.and_eq_true, decide_eq_true_eq] at h
    have : k ≠ a := by omega
    simp only [FrameBuffer.read?, this, if_false]
    exact ih h.2 (by omega)

/-- In a canonical buffer equal reads mean equal lists: a buffer is one datum. -/
theorem FrameBuffer.ext_of_sorted {m n : FrameBuffer} {lo : Nat} (hm : FrameBuffer.sortedFrom lo m = true)
    (hn : FrameBuffer.sortedFrom lo n = true) (h : ∀ a, m.read? a = n.read? a) : m = n := by
  induction m generalizing lo n with
  | nil =>
    cases n with
    | nil => rfl
    | cons c n => have := h c.1; simp [FrameBuffer.read?] at this
  | cons c m ih =>
    obtain ⟨k, w⟩ := c
    cases n with
    | nil => have := h k; simp [FrameBuffer.read?] at this
    | cons d n =>
      obtain ⟨j, u⟩ := d
      simp only [FrameBuffer.sortedFrom, Bool.and_eq_true, decide_eq_true_eq] at hm hn
      obtain hlt | heq | hgt := Nat.lt_trichotomy k j
      · have := h k
        simp only [FrameBuffer.read?, if_true, if_neg (Nat.ne_of_gt hlt)] at this
        rw [FrameBuffer.read?_of_lt hn.2 (by omega)] at this
        cases this
      · subst heq
        have hv := h k
        simp only [FrameBuffer.read?, if_true, Option.some.injEq] at hv
        subst hv
        congr 1
        refine ih hm.2 hn.2 fun a => ?_
        have := h a
        simp only [FrameBuffer.read?] at this
        split at this
        · next hk => subst hk; rw [FrameBuffer.read?_of_lt hm.2 (by omega), FrameBuffer.read?_of_lt hn.2 (by omega)]
        · exact this
      · have := h j
        simp only [FrameBuffer.read?, if_true, if_neg (Nat.ne_of_gt hgt)] at this
        rw [FrameBuffer.read?_of_lt hm.2 (by omega)] at this
        cases this

/-- The buffer right after reset is canonical. -/
theorem State.reset_buf_wf : State.reset.buf.wf = true := rfl

/-! ### One octet of a state -/

/-- Two states with the same buffer and the same free values read the same octets. -/
theorem State.octet_congr {s t : State} (hb : t.buf = s.buf) (hr : t.resets = s.resets) (a : Nat) :
    t.octet a = s.octet a := by
  unfold State.octet; rw [hb, hr]

/-- Reading after one store (00_scope.md R14). -/
theorem State.octet_setOctet (s : State) (a x : Nat) (v : Byte) :
    (s.setOctet a v).octet x = if x = a then v else s.octet x := by
  unfold State.octet
  rw [State.setOctet_buf, State.setOctet_resets, FrameBuffer.read?_write]
  split <;> rfl

@[simp] theorem State.octet_setOctet_self (s : State) (a : Nat) (v : Byte) : (s.setOctet a v).octet a = v := by
  rw [State.octet_setOctet, if_pos rfl]

theorem State.octet_setOctet_ne (s : State) {a x : Nat} (v : Byte) (h : x ≠ a) :
    (s.setOctet a v).octet x = s.octet x := by
  rw [State.octet_setOctet, if_neg h]

theorem State.octet_storeOctet (s : State) (b : Byte) (x : Nat) :
    (s.storeOctet b).octet x = if x = s.writeIdx.toNat then b else s.octet x :=
  State.octet_setOctet ..

theorem State.octet_startFrame (s : State) (b : Byte) (x : Nat) :
    (s.startFrame b).octet x = if x = 0 then b else s.octet x :=
  State.octet_setOctet ..

theorem State.octet_storeLast (s : State) (b : Byte) (x : Nat) :
    (s.storeLast b).octet x = if x = 254 then b else s.octet x :=
  State.octet_setOctet ..

theorem State.octet_storeFourth (s : State) (b : Byte) (x : Nat) :
    (s.storeFourth b).octet x = if x = 3 then b else s.octet x :=
  State.octet_setOctet ..

@[simp] theorem State.octet_consume (s : State) (x : Nat) : s.consume.octet x = s.octet x := rfl
@[simp] theorem State.octet_raiseError (s : State) (c : Cause) (x : Nat) : (s.raiseError c).octet x = s.octet x := rfl
@[simp] theorem State.octet_leaveError (s : State) (x : Nat) : s.leaveError.octet x = s.octet x := rfl
@[simp] theorem State.octet_enterDecode (s : State) (x : Nat) : s.enterDecode.octet x = s.octet x := rfl
@[simp] theorem State.octet_leaveDecode (s : State) (x : Nat) : s.leaveDecode.octet x = s.octet x := rfl
@[simp] theorem State.octet_setTemp (s : State) (i : Fin 32) (v : Half) (x : Nat) :
    (s.setTemp i v).octet x = s.octet x := rfl
@[simp] theorem State.octet_setPump (s : State) (i : Fin 32) (v : Byte) (x : Nat) :
    (s.setPump i v).octet x = s.octet x := rfl
@[simp] theorem State.octet_setRelay (s : State) (i : Fin 32) (v : Bool) (x : Nat) :
    (s.setRelay i v).octet x = s.octet x := rfl
@[simp] theorem State.octet_setOpHours (s : State) (i : Fin 8) (v : Word) (x : Nat) :
    (s.setOpHours i v).octet x = s.octet x := rfl
@[simp] theorem State.octet_setCounts (s : State) (i j k : BitVec 8) (x : Nat) :
    (s.setCounts i j k).octet x = s.octet x := rfl
@[simp] theorem State.octet_decodeHeader (s : State) (x : Nat) : s.decodeHeader.octet x = s.octet x := rfl

end Sys2Proof.Machine
end

