-- ==== Sys2Proof/Laws/Ops.lean ====
section
/-! SUPPORT. What each shared operation of Machine/Ops.lean can do, said once: storing, the Decode frame, the step
boundary, the watchdog condition, the byte source. -/

namespace Sys2Proof.Machine

/-! ### The outcome of a storing operation -/

/-- A storing operation goes on exactly when `write_idx` is an index of the buffer (20_memory.md R50), and then in this
state. -/
theorem State.storing_eq_next {s t : State} {b : Byte} {k : State → State} :
    s.storing b k = .next t ↔ s.writeIdx.toNat < 255 ∧ t = k (s.consume.storeOctet b) := by
  unfold State.storing
  split
  · next h => simp only [Host.Outcome.next.injEq]; exact ⟨fun e => ⟨h, e.symm⟩, fun e => e.2.symm⟩
  · next h => simp [h]

theorem State.storing_of_lt {s : State} {b : Byte} {k : State → State} (h : s.writeIdx.toNat < 255) :
    s.storing b k = .next (k (s.consume.storeOctet b)) :=
  if_pos h

theorem State.storing_full {s : State} {b : Byte} {k : State → State} (h : ¬ s.writeIdx.toNat < 255) :
    s.storing b k = .fault .bufferIndex :=
  if_neg h

/-- Below 255 the index grows without wrap (10_state.md R27). -/
theorem State.storeOctet_index {s : State} (b : Byte) (h : s.writeIdx.toNat < 255) :
    (s.storeOctet b).writeIdx.toNat = s.writeIdx.toNat + 1 := by
  simp only [State.storeOctet_writeIdx]; bv_omega

/-! ### The watchdog and the byte source -/

/-- The elapsed time is computed modulo 2^32 (10_state.md R22, R23). -/
theorem State.wdogDue_iff (s : State) :
    s.wdogDue = true ↔ 20000 < (2 ^ 32 - s.lastProgressMs.toNat + s.ports.nowMs.toNat) % 2 ^ 32 := by
  unfold State.wdogDue
  rw [decide_eq_true_iff, BitVec.toNat_sub]

/-- Right after `last_progress_ms <- now_ms` the watchdog is quiet. -/
theorem State.wdogDue_of_eq {s : State} (h : s.lastProgressMs = s.ports.nowMs) : s.wdogDue = false := by
  simp [State.wdogDue, h]

theorem State.rxValid_iff (s : State) : s.rxValid = true ↔ s.ports.rxPending ≠ [] := by
  simp [State.rxValid]

theorem State.rxData_of_head {s : State} {b : Byte} (h : s.ports.rxPending.head? = some b) : s.rxData = b := by
  simp [State.rxData, List.headD_eq_head?_getD, h]

/-! ### The Decode frame (44_decode_vbus.md R180) -/

@[simp] theorem State.decoding_protocol (s : State) (k : State → State) : (s.decoding k).protocol = (k s.enterDecode).protocol := rfl
@[simp] theorem State.decoding_phase (s : State) (k : State → State) : (s.decoding k).phase = .sync := rfl
@[simp] theorem State.decoding_writeIdx (s : State) (k : State → State) : (s.decoding k).writeIdx = 0 := rfl
@[simp] theorem State.decoding_lastProgressMs (s : State) (k : State → State) : (s.decoding k).lastProgressMs = (k s.enterDecode).lastProgressMs := rfl
@[simp] theorem State.decoding_buf (s : State) (k : State → State) : (s.decoding k).buf = (k s.enterDecode).buf := rfl
@[simp] theorem State.decoding_header (s : State) (k : State → State) : (s.decoding k).header = (k s.enterDecode).header := rfl
@[simp] theorem State.decoding_ready (s : State) (k : State → State) : (s.decoding k).ready = true := rfl
@[simp] theorem State.decoding_busOk (s : State) (k : State → State) : (s.decoding k).busOk = (k s.enterDecode).busOk := rfl
@[simp] theorem State.decoding_temp (s : State) (k : State → State) : (s.decoding k).temp = (k s.enterDecode).temp := rfl
@[simp] theorem State.decoding_pump (s : State) (k : State → State) : (s.decoding k).pump = (k s.enterDecode).pump := rfl
@[simp] theorem State.decoding_relay (s : State) (k : State → State) : (s.decoding k).relay = (k s.enterDecode).relay := rfl
@[simp] theorem State.decoding_tempNum (s : State) (k : State → State) : (s.decoding k).tempNum = (k s.enterDecode).tempNum := rfl
@[simp] theorem State.decoding_pumpNum (s : State) (k : State → State) : (s.decoding k).pumpNum = (k s.enterDecode).pumpNum := rfl
@[simp] theorem State.decoding_relayNum (s : State) (k : State → State) : (s.decoding k).relayNum = (k s.enterDecode).relayNum := rfl
@[simp] theorem State.decoding_errorMask (s : State) (k : State → State) : (s.decoding k).errorMask = (k s.enterDecode).errorMask := rfl
@[simp] theorem State.decoding_systemTimeMinutes (s : State) (k : State → State) : (s.decoding k).systemTimeMinutes = (k s.enterDecode).systemTimeMinutes := rfl
@[simp] theorem State.decoding_heatQuantityWh (s : State) (k : State → State) : (s.decoding k).heatQuantityWh = (k s.enterDecode).heatQuantityWh := rfl
@[simp] theorem State.decoding_systemVariant (s : State) (k : State → State) : (s.decoding k).systemVariant = (k s.enterDecode).systemVariant := rfl
@[simp] theorem State.decoding_opHours (s : State) (k : State → State) : (s.decoding k).opHours = (k s.enterDecode).opHours := rfl
@[simp] theorem State.decoding_km (s : State) (k : State → State) : (s.decoding k).km = (k s.enterDecode).km := rfl
@[simp] theorem State.decoding_ports (s : State) (k : State → State) : (s.decoding k).ports = (k s.enterDecode).ports := rfl
@[simp] theorem State.decoding_wdogRearm (s : State) (k : State → State) : (s.decoding k).wdogRearm = (k s.enterDecode).wdogRearm := rfl
@[simp] theorem State.decoding_env (s : State) (k : State → State) : (s.decoding k).env = (k s.enterDecode).env := rfl
@[simp] theorem State.decoding_resets (s : State) (k : State → State) : (s.decoding k).resets = (k s.enterDecode).resets := rfl
@[simp] theorem State.octet_decoding (s : State) (k : State → State) (x : Nat) :
    (s.decoding k).octet x = (k s.enterDecode).octet x := rfl

/-! ### The step boundary (log entry 2) -/

@[simp] theorem State.boundary_protocol (s : State) : s.boundary.protocol = s.protocol := by
  unfold State.boundary; split <;> rfl
@[simp] theorem State.boundary_phase (s : State) : s.boundary.phase = s.phase := by
  unfold State.boundary; split <;> rfl
@[simp] theorem State.boundary_writeIdx (s : State) : s.boundary.writeIdx = s.writeIdx := by
  unfold State.boundary; split <;> rfl
@[simp] theorem State.boundary_lastProgressMs (s : State) : s.boundary.lastProgressMs = s.lastProgressMs := by
  unfold State.boundary; split <;> rfl
@[simp] theorem State.boundary_buf (s : State) : s.boundary.buf = s.buf := by
  unfold State.boundary; split <;> rfl
@[simp] theorem State.boundary_header (s : State) : s.boundary.header = s.header := by
  unfold State.boundary; split <;> rfl
@[simp] theorem State.boundary_ready (s : State) : s.boundary.ready = s.ready := by
  unfold State.boundary; split <;> rfl
@[simp] theorem State.boundary_busOk (s : State) : s.boundary.busOk = s.busOk := by
  unfold State.boundary; split <;> rfl
@[simp] theorem State.boundary_temp (s : State) : s.boundary.temp = s.temp := by
  unfold State.boundary; split <;> rfl
@[simp] theorem State.boundary_pump (s : State) : s.boundary.pump = s.pump := by
  unfold State.boundary; split <;> rfl
@[simp] theorem State.boundary_relay (s : State) : s.boundary.relay = s.relay := by
  unfold State.boundary; split <;> rfl
@[simp] theorem State.boundary_tempNum (s : State) : s.boundary.tempNum = s.tempNum := by
  unfold State.boundary; split <;> rfl
@[simp] theorem State.boundary_pumpNum (s : State) : s.boundary.pumpNum = s.pumpNum := by
  unfold State.boundary; split <;> rfl
@[simp] theorem State.boundary_relayNum (s : State) : s.boundary.relayNum = s.relayNum := by
  unfold State.boundary; split <;> rfl
@[simp] theorem State.boundary_errorMask (s : State) : s.boundary.errorMask = s.errorMask := by
  unfold State.boundary; split <;> rfl
@[simp] theorem State.boundary_systemTimeMinutes (s : State) : s.boundary.systemTimeMinutes = s.systemTimeMinutes := by
  unfold State.boundary; split <;> rfl
@[simp] theorem State.boundary_heatQuantityWh (s : State) : s.boundary.heatQuantityWh = s.heatQuantityWh := by
  unfold State.boundary; split <;> rfl
@[simp] theorem State.boundary_systemVariant (s : State) : s.boundary.systemVariant = s.systemVariant := by
  unfold State.boundary; split <;> rfl
@[simp] theorem State.boundary_opHours (s : State) : s.boundary.opHours = s.opHours := by
  unfold State.boundary; split <;> rfl
@[simp] theorem State.boundary_km (s : State) : s.boundary.km = s.km := by
  unfold State.boundary; split <;> rfl
@[simp] theorem State.boundary_wdogRearm (s : State) : s.boundary.wdogRearm = s.wdogRearm := by
  unfold State.boundary; split <;> rfl
@[simp] theorem State.boundary_resets (s : State) : s.boundary.resets = s.resets := by
  unfold State.boundary; split <;> rfl
@[simp] theorem State.octet_boundary (s : State) (x : Nat) : s.boundary.octet x = s.octet x :=
  State.octet_congr (by simp) (by simp) x

/-- With no move left the ports hold their values. -/
theorem State.boundary_of_nil {s : State} (h : s.env = []) : s.boundary = s := by
  unfold State.boundary; rw [h]

/-- The environment's move touches only the ports and the list of moves. -/
theorem State.boundary_of_cons {s : State} {e : EnvMove} {rest : List EnvMove} (h : s.env = e :: rest) :
    s.boundary = { s with ports := e.apply s.ports, env := rest } := by
  unfold State.boundary; rw [h]

/-- A step that answers a next state ran the selected operation. -/
theorem exists_exec_of_step {s t : State} (h : step s = .next t) :
    ∃ u, exec s.selected s = .next u ∧ t = u.boundary := by
  unfold step at h
  split at h
  · next u hu => exact ⟨u, hu, (Host.Outcome.next.inj h).symm⟩
  · cases h
  · cases h

end Sys2Proof.Machine
end

