-- ==== Sys2Proof/Laws/Operands.lean ====
section
/-! SUPPORT. What each operand form and each block form of Machine/Operands.lean computes and what it leaves alone. -/

namespace Sys2Proof.Machine

/-! ### Fields (00_scope.md R16, 30_encoding.md R80) -/

theorem le16_toNat (rd : Nat → Byte) (a : Nat) : (le16 rd a).toNat = (rd a).toNat + 256 * (rd (a + 1)).toNat := by
  have := (rd a).isLt
  simp only [le16, BitVec.toNat_append]
  rw [← Nat.shiftLeft_add_eq_or_of_lt this, Nat.shiftLeft_eq]; omega

theorem be16_toNat (rd : Nat → Byte) (a : Nat) : (be16 rd a).toNat = 256 * (rd a).toNat + (rd (a + 1)).toNat := by
  have := (rd (a + 1)).isLt
  simp only [be16, BitVec.toNat_append]
  rw [← Nat.shiftLeft_add_eq_or_of_lt this, Nat.shiftLeft_eq]; omega

/-- Bit 7 of a pump field is 0 (10_state.md R34). -/
theorem pumpField_lt (rd : Nat → Byte) (a : Nat) : (pumpField rd a).toNat < 128 := by
  have : (rd a &&& 0x7F).toNat ≤ (0x7F : Byte).toNat := by
    rw [BitVec.toNat_and]; exact Nat.and_le_right
  simpa [pumpField] using Nat.lt_succ_of_le this

theorem hoursField_toNat (rd : Nat → Byte) (a : Nat) : (hoursField rd a).toNat = (le16 rd a).toNat := by
  have := (le16 rd a).isLt
  simp only [hoursField, BitVec.toNat_setWidth]; omega

/-- A KM temperature never wraps: at most 1275 (45_decode_kw_p300_km.md R216). -/
theorem kmTemp_toNat (rd : Nat → Byte) (k : Nat) : (kmTemp rd k).toNat = 5 * (kmDecoded rd k).toNat := by
  have := (kmDecoded rd k).isLt
  have h5 : (5 : Half).toNat = 5 := rfl
  simp only [kmTemp, BitVec.toNat_mul, BitVec.toNat_setWidth, h5]; omega

theorem kmTemp_le (rd : Nat → Byte) (k : Nat) : (kmTemp rd k).toNat ≤ 1275 := by
  have := (kmDecoded rd k).isLt
  rw [kmTemp_toNat]; omega

/-- `frame_len` of a decoded header with a frame count below 128 (10_state.md R29). -/
theorem headerOf_frameLen {rd : Nat → Byte} (h : (rd 7).toNat < 128) :
    (headerOf rd).frameLen.toNat = 10 + 6 * (rd 7).toNat := by
  have h6 : (6 : BitVec 10).toNat = 6 := rfl
  have h10 : (10 : BitVec 10).toNat = 10 := rfl
  simp only [headerOf, BitVec.toNat_add, BitVec.toNat_mul, BitVec.toNat_setWidth, h6, h10]; omega

/-- The header decode reads indices 0 to 8 only. -/
theorem headerOf_congr {rd rd' : Nat → Byte} (h : ∀ a < 9, rd' a = rd a) : headerOf rd' = headerOf rd := by
  simp [headerOf, le16, h]

/-! ### The septet decoder (44_decode_vbus.md R182) -/

/-- Each round of the loop: data octet `x` gets bit 7 exactly when its septet bit is set. -/
theorem State.octet_injectBits (s : State) (septet : Byte) (off n x : Nat) :
    (s.injectBits septet off n).octet x =
      if off ≤ x ∧ x < off + n ∧ septet.getLsbD (x - off) = true then s.octet x ||| 0x80 else s.octet x := by
  induction n with
  | zero =>
    have : ¬(off ≤ x ∧ x < off + 0 ∧ septet.getLsbD (x - off) = true) := by omega
    rw [if_neg this]; rfl
  | succ n ih =>
    have hn : (s.injectBits septet off n).octet (off + n) = s.octet (off + n) ∨ x ≠ off + n := by
      by_cases hx : x = off + n
      · subst hx; left; rw [ih, if_neg (by omega)]
      · exact .inr hx
    simp only [State.injectBits]
    by_cases hb : septet.getLsbD n = true
    · rw [if_pos hb, State.octet_setOctet]
      by_cases hx : x = off + n
      · subst hx
        rw [if_pos rfl, if_pos ⟨by omega, by omega, by simpa using hb⟩]
        rw [hn.resolve_right (by simp)]
      · rw [if_neg hx, ih]
        congr 1
        apply propext
        constructor
        · rintro ⟨h1, h2, h3⟩; exact ⟨h1, by omega, h3⟩
        · rintro ⟨h1, h2, h3⟩; exact ⟨h1, by omega, h3⟩
    · rw [if_neg hb, ih]
      congr 1
      apply propext
      constructor
      · rintro ⟨h1, h2, h3⟩; exact ⟨h1, by omega, h3⟩
      · rintro ⟨h1, h2, h3⟩
        refine ⟨h1, ?_, h3⟩
        by_contra hx
        have : x - off = n := by omega
        rw [this] at h3
        exact hb h3

/-- The loop touches the buffer only. -/
theorem State.injectBits_eq (s : State) (septet : Byte) (off n : Nat) :
    s.injectBits septet off n = { s with buf := (s.injectBits septet off n).buf } := by
  induction n with
  | zero => rfl
  | succ n ih =>
    simp only [State.injectBits]
    split
    · unfold State.setOctet; rw [ih]
    · exact ih

/-- The loop writes only indices `off` to `off + n - 1`, so the buffer keeps its form. -/
theorem State.injectBits_wf {s : State} {septet : Byte} {off n : Nat} (h : s.buf.wf = true) (hn : off + n ≤ 255) :
    (s.injectBits septet off n).buf.wf = true := by
  induction n with
  | zero => exact h
  | succ n ih =>
    simp only [State.injectBits]
    split
    · exact FrameBuffer.wf_write (ih (by omega)) (show off + n < 255 by omega)
    · exact ih (by omega)

theorem State.septetInject_eq (s : State) (off len : Nat) :
    s.septetInject off len = { s with buf := (s.septetInject off len).buf } :=
  State.injectBits_eq ..

theorem State.octet_septetInject (s : State) (off len x : Nat) :
    (s.septetInject off len).octet x =
      if off ≤ x ∧ x < off + len ∧ (s.octet (off + len)).getLsbD (x - off) = true then s.octet x ||| 0x80
      else s.octet x :=
  State.octet_injectBits ..

theorem State.septetInject_wf {s : State} {off len : Nat} (h : s.buf.wf = true) (hn : off + len ≤ 255) :
    (s.septetInject off len).buf.wf = true :=
  State.injectBits_wf h hn

/-- What a block form reads after its injection (R182, R188). -/
theorem State.octet_septetInject_data (s : State) (o : Nat) {i : Nat} (hi : i < 4) :
    (s.septetInject o 4).octet (o + i) = injected s o i := by
  rw [State.octet_septetInject]
  unfold injected
  have h1 : o ≤ o + i := by omega
  have h2 : o + i < o + 4 := by omega
  simp only [h1, h2, true_and, Nat.add_sub_cancel_left]
  by_cases hb : (s.octet (o + 4)).getLsbD i = true <;> simp [hb]

theorem State.le16_septetInject (s : State) (o : Nat) {i : Nat} (hi : i < 3) :
    le16 (s.septetInject o 4).octet (o + i) = injected16 s o i := by
  have h := s.octet_septetInject_data o (i := i + 1) (by omega)
  rw [← Nat.add_assoc] at h
  unfold le16 injected16
  rw [h, s.octet_septetInject_data o (by omega)]

@[simp] theorem State.septetInject_protocol (s : State) (off len : Nat) : (s.septetInject off len).protocol = s.protocol := by
  rw [State.septetInject_eq]
@[simp] theorem State.septetInject_phase (s : State) (off len : Nat) : (s.septetInject off len).phase = s.phase := by
  rw [State.septetInject_eq]
@[simp] theorem State.septetInject_writeIdx (s : State) (off len : Nat) : (s.septetInject off len).writeIdx = s.writeIdx := by
  rw [State.septetInject_eq]
@[simp] theorem State.septetInject_lastProgressMs (s : State) (off len : Nat) : (s.septetInject off len).lastProgressMs = s.lastProgressMs := by
  rw [State.septetInject_eq]
@[simp] theorem State.septetInject_header (s : State) (off len : Nat) : (s.septetInject off len).header = s.header := by
  rw [State.septetInject_eq]
@[simp] theorem State.septetInject_ready (s : State) (off len : Nat) : (s.septetInject off len).ready = s.ready := by
  rw [State.septetInject_eq]
@[simp] theorem State.septetInject_busOk (s : State) (off len : Nat) : (s.septetInject off len).busOk = s.busOk := by
  rw [State.septetInject_eq]
@[simp] theorem State.septetInject_temp (s : State) (off len : Nat) : (s.septetInject off len).temp = s.temp := by
  rw [State.septetInject_eq]
@[simp] theorem State.septetInject_pump (s : State) (off len : Nat) : (s.septetInject off len).pump = s.pump := by
  rw [State.septetInject_eq]
@[simp] theorem State.septetInject_relay (s : State) (off len : Nat) : (s.septetInject off len).relay = s.relay := by
  rw [State.septetInject_eq]
@[simp] theorem State.septetInject_tempNum (s : State) (off len : Nat) : (s.septetInject off len).tempNum = s.tempNum := by
  rw [State.septetInject_eq]
@[simp] theorem State.septetInject_pumpNum (s : State) (off len : Nat) : (s.septetInject off len).pumpNum = s.pumpNum := by
  rw [State.septetInject_eq]
@[simp] theorem State.septetInject_relayNum (s : State) (off len : Nat) : (s.septetInject off len).relayNum = s.relayNum := by
  rw [State.septetInject_eq]
@[simp] theorem State.septetInject_errorMask (s : State) (off len : Nat) : (s.septetInject off len).errorMask = s.errorMask := by
  rw [State.septetInject_eq]
@[simp] theorem State.septetInject_systemTimeMinutes (s : State) (off len : Nat) : (s.septetInject off len).systemTimeMinutes = s.systemTimeMinutes := by
  rw [State.septetInject_eq]
@[simp] theorem State.septetInject_heatQuantityWh (s : State) (off len : Nat) : (s.septetInject off len).heatQuantityWh = s.heatQuantityWh := by
  rw [State.septetInject_eq]
@[simp] theorem State.septetInject_systemVariant (s : State) (off len : Nat) : (s.septetInject off len).systemVariant = s.systemVariant := by
  rw [State.septetInject_eq]
@[simp] theorem State.septetInject_opHours (s : State) (off len : Nat) : (s.septetInject off len).opHours = s.opHours := by
  rw [State.septetInject_eq]
@[simp] theorem State.septetInject_km (s : State) (off len : Nat) : (s.septetInject off len).km = s.km := by
  rw [State.septetInject_eq]
@[simp] theorem State.septetInject_ports (s : State) (off len : Nat) : (s.septetInject off len).ports = s.ports := by
  rw [State.septetInject_eq]
@[simp] theorem State.septetInject_wdogRearm (s : State) (off len : Nat) : (s.septetInject off len).wdogRearm = s.wdogRearm := by
  rw [State.septetInject_eq]
@[simp] theorem State.septetInject_env (s : State) (off len : Nat) : (s.septetInject off len).env = s.env := by
  rw [State.septetInject_eq]
@[simp] theorem State.septetInject_resets (s : State) (off len : Nat) : (s.septetInject off len).resets = s.resets := by
  rw [State.septetInject_eq]

/-! ### The block guard (44_decode_vbus.md R184) -/

theorem State.present_iff (s : State) (k : Nat) : s.present (9 + 6 * k) = true ↔ k < s.header.frameCnt.toNat := by
  unfold State.present
  have : (9 + 6 * k - 9) / 6 = k := by omega
  rw [this, decide_eq_true_iff]

theorem State.withBlock_present {s : State} {o : Nat} {k : State → State} (h : s.present o = true) :
    s.withBlock o k = k (s.septetInject o 4) :=
  if_pos h

theorem State.withBlock_absent {s : State} {o : Nat} {k : State → State} (h : ¬ s.present o = true) :
    s.withBlock o k = s :=
  if_neg h

/-- Whatever neither the buffer nor `k` decides, the block form leaves alone. -/
theorem State.withBlock_keeps {α : Type} (g : State → α) (s : State) (o : Nat) (k : State → State)
    (hb : ∀ t m, g { t with buf := m } = g t) (hk : ∀ t, g (k t) = g t) : g (s.withBlock o k) = g s := by
  unfold State.withBlock
  split
  · rw [hk, State.septetInject_eq, hb]
  · rfl

/-- A block form whose `k` leaves the buffer alone changes it by the injection only. -/
theorem State.octet_withBlock (s : State) (o : Nat) (k : State → State) (hk : ∀ t x, (k t).octet x = t.octet x)
    (x : Nat) : (s.withBlock o k).octet x = if s.present o = true then (s.septetInject o 4).octet x else s.octet x := by
  unfold State.withBlock
  split
  · exact hk ..
  · rfl

theorem State.withBlock_wf {s : State} {o : Nat} {k : State → State} (h : s.buf.wf = true) (ho : o + 4 ≤ 255)
    (hk : ∀ t, (k t).buf = t.buf) : (s.withBlock o k).buf.wf = true := by
  unfold State.withBlock
  split
  · rw [hk]; exact State.septetInject_wf h ho
  · exact h

/-! ### The pump loop (44_decode_vbus.md R188) -/

theorem State.pumpLoop_keeps {α : Type} (g : State → α) (on : Byte → Bool) (hp : ∀ t i v, g (State.setPump t i v) = g t)
    (hr : ∀ t i v, g (State.setRelay t i v) = g t) (s : State) (a : Nat) (dests : List (Fin 32)) :
    g (State.pumpLoop on s a dests) = g s := by
  induction dests generalizing s a with
  | nil => rfl
  | cons i dests ih => simp only [State.pumpLoop]; rw [ih, hr, hp]

theorem State.octet_pumpLoop (on : Byte → Bool) (s : State) (a : Nat) (dests : List (Fin 32)) (x : Nat) :
    (State.pumpLoop on s a dests).octet x = s.octet x :=
  State.pumpLoop_keeps (fun t => t.octet x) on (fun _ _ _ => rfl) (fun _ _ _ => rfl) s a dests

/-- The pump loop keeps bit 7 of every pump register at 0 (10_state.md R34). -/
theorem State.pumpLoop_range {on : Byte → Bool} {s : State} {a : Nat} {dests : List (Fin 32)}
    (h : ∀ i : Fin 32, (s.pump.get i).toNat < 128) (i : Fin 32) :
    ((State.pumpLoop on s a dests).pump.get i).toNat < 128 := by
  induction dests generalizing s a with
  | nil => exact h i
  | cons j dests ih =>
    refine ih fun i => ?_
    simp only [State.setRelay_pump, State.setPump_pump, Vector.get_eq_getElem, Vector.getElem_set]
    split
    · exact pumpField_lt ..
    · exact h i

/-! ### What each block form leaves alone -/

@[simp] theorem State.temp2_protocol (s : State) (o : Nat) (lo hi : Fin 32) : (s.temp2 o lo hi).protocol = s.protocol :=
  State.withBlock_keeps (·.protocol) s o _ (fun _ _ => rfl) (fun _ => rfl)
@[simp] theorem State.temp2_phase (s : State) (o : Nat) (lo hi : Fin 32) : (s.temp2 o lo hi).phase = s.phase :=
  State.withBlock_keeps (·.phase) s o _ (fun _ _ => rfl) (fun _ => rfl)
@[simp] theorem State.temp2_writeIdx (s : State) (o : Nat) (lo hi : Fin 32) : (s.temp2 o lo hi).writeIdx = s.writeIdx :=
  State.withBlock_keeps (·.writeIdx) s o _ (fun _ _ => rfl) (fun _ => rfl)
@[simp] theorem State.temp2_lastProgressMs (s : State) (o : Nat) (lo hi : Fin 32) : (s.temp2 o lo hi).lastProgressMs = s.lastProgressMs :=
  State.withBlock_keeps (·.lastProgressMs) s o _ (fun _ _ => rfl) (fun _ => rfl)
@[simp] theorem State.temp2_header (s : State) (o : Nat) (lo hi : Fin 32) : (s.temp2 o lo hi).header = s.header :=
  State.withBlock_keeps (·.header) s o _ (fun _ _ => rfl) (fun _ => rfl)
@[simp] theorem State.temp2_ready (s : State) (o : Nat) (lo hi : Fin 32) : (s.temp2 o lo hi).ready = s.ready :=
  State.withBlock_keeps (·.ready) s o _ (fun _ _ => rfl) (fun _ => rfl)
@[simp] theorem State.temp2_busOk (s : State) (o : Nat) (lo hi : Fin 32) : (s.temp2 o lo hi).busOk = s.busOk :=
  State.withBlock_keeps (·.busOk) s o _ (fun _ _ => rfl) (fun _ => rfl)
@[simp] theorem State.temp2_pump (s : State) (o : Nat) (lo hi : Fin 32) : (s.temp2 o lo hi).pump = s.pump :=
  State.withBlock_keeps (·.pump) s o _ (fun _ _ => rfl) (fun _ => rfl)
@[simp] theorem State.temp2_relay (s : State) (o : Nat) (lo hi : Fin 32) : (s.temp2 o lo hi).relay = s.relay :=
  State.withBlock_keeps (·.relay) s o _ (fun _ _ => rfl) (fun _ => rfl)
@[simp] theorem State.temp2_tempNum (s : State) (o : Nat) (lo hi : Fin 32) : (s.temp2 o lo hi).tempNum = s.tempNum :=
  State.withBlock_keeps (·.tempNum) s o _ (fun _ _ => rfl) (fun _ => rfl)
@[simp] theorem State.temp2_pumpNum (s : State) (o : Nat) (lo hi : Fin 32) : (s.temp2 o lo hi).pumpNum = s.pumpNum :=
  State.withBlock_keeps (·.pumpNum) s o _ (fun _ _ => rfl) (fun _ => rfl)
@[simp] theorem State.temp2_relayNum (s : State) (o : Nat) (lo hi : Fin 32) : (s.temp2 o lo hi).relayNum = s.relayNum :=
  State.withBlock_keeps (·.relayNum) s o _ (fun _ _ => rfl) (fun _ => rfl)
@[simp] theorem State.temp2_errorMask (s : State) (o : Nat) (lo hi : Fin 32) : (s.temp2 o lo hi).errorMask = s.errorMask :=
  State.withBlock_keeps (·.errorMask) s o _ (fun _ _ => rfl) (fun _ => rfl)
@[simp] theorem State.temp2_systemTimeMinutes (s : State) (o : Nat) (lo hi : Fin 32) : (s.temp2 o lo hi).systemTimeMinutes = s.systemTimeMinutes :=
  State.withBlock_keeps (·.systemTimeMinutes) s o _ (fun _ _ => rfl) (fun _ => rfl)
@[simp] theorem State.temp2_heatQuantityWh (s : State) (o : Nat) (lo hi : Fin 32) : (s.temp2 o lo hi).heatQuantityWh = s.heatQuantityWh :=
  State.withBlock_keeps (·.heatQuantityWh) s o _ (fun _ _ => rfl) (fun _ => rfl)
@[simp] theorem State.temp2_systemVariant (s : State) (o : Nat) (lo hi : Fin 32) : (s.temp2 o lo hi).systemVariant = s.systemVariant :=
  State.withBlock_keeps (·.systemVariant) s o _ (fun _ _ => rfl) (fun _ => rfl)
@[simp] theorem State.temp2_opHours (s : State) (o : Nat) (lo hi : Fin 32) : (s.temp2 o lo hi).opHours = s.opHours :=
  State.withBlock_keeps (·.opHours) s o _ (fun _ _ => rfl) (fun _ => rfl)
@[simp] theorem State.temp2_km (s : State) (o : Nat) (lo hi : Fin 32) : (s.temp2 o lo hi).km = s.km :=
  State.withBlock_keeps (·.km) s o _ (fun _ _ => rfl) (fun _ => rfl)
@[simp] theorem State.temp2_ports (s : State) (o : Nat) (lo hi : Fin 32) : (s.temp2 o lo hi).ports = s.ports :=
  State.withBlock_keeps (·.ports) s o _ (fun _ _ => rfl) (fun _ => rfl)
@[simp] theorem State.temp2_wdogRearm (s : State) (o : Nat) (lo hi : Fin 32) : (s.temp2 o lo hi).wdogRearm = s.wdogRearm :=
  State.withBlock_keeps (·.wdogRearm) s o _ (fun _ _ => rfl) (fun _ => rfl)
@[simp] theorem State.temp2_env (s : State) (o : Nat) (lo hi : Fin 32) : (s.temp2 o lo hi).env = s.env :=
  State.withBlock_keeps (·.env) s o _ (fun _ _ => rfl) (fun _ => rfl)
@[simp] theorem State.temp2_resets (s : State) (o : Nat) (lo hi : Fin 32) : (s.temp2 o lo hi).resets = s.resets :=
  State.withBlock_keeps (·.resets) s o _ (fun _ _ => rfl) (fun _ => rfl)
theorem State.octet_temp2 (s : State) (o : Nat) (lo hi : Fin 32) (x : Nat) :
    (s.temp2 o lo hi).octet x = if s.present o = true then (s.septetInject o 4).octet x else s.octet x :=
  State.octet_withBlock s o (fun t => (t.setTemp lo (le16 t.octet o)).setTemp hi (le16 t.octet (o + 2))) (fun _ _ => rfl) x
theorem State.temp2_wf {s : State} {o : Nat} {lo hi : Fin 32} (h : s.buf.wf = true) (ho : o + 4 ≤ 255) :
    (s.temp2 o lo hi).buf.wf = true :=
  State.withBlock_wf h ho (fun _ => rfl)

@[simp] theorem State.pumps_protocol (s : State) (o : Nat) (dests : List (Fin 32)) (on : Byte → Bool) : (s.pumps o dests on).protocol = s.protocol :=
  State.withBlock_keeps (·.protocol) s o _ (fun _ _ => rfl) (fun t => State.pumpLoop_keeps (·.protocol) on (fun _ _ _ => rfl) (fun _ _ _ => rfl) t o dests)
@[simp] theorem State.pumps_phase (s : State) (o : Nat) (dests : List (Fin 32)) (on : Byte → Bool) : (s.pumps o dests on).phase = s.phase :=
  State.withBlock_keeps (·.phase) s o _ (fun _ _ => rfl) (fun t => State.pumpLoop_keeps (·.phase) on (fun _ _ _ => rfl) (fun _ _ _ => rfl) t o dests)
@[simp] theorem State.pumps_writeIdx (s : State) (o : Nat) (dests : List (Fin 32)) (on : Byte → Bool) : (s.pumps o dests on).writeIdx = s.writeIdx :=
  State.withBlock_keeps (·.writeIdx) s o _ (fun _ _ => rfl) (fun t => State.pumpLoop_keeps (·.writeIdx) on (fun _ _ _ => rfl) (fun _ _ _ => rfl) t o dests)
@[simp] theorem State.pumps_lastProgressMs (s : State) (o : Nat) (dests : List (Fin 32)) (on : Byte → Bool) : (s.pumps o dests on).lastProgressMs = s.lastProgressMs :=
  State.withBlock_keeps (·.lastProgressMs) s o _ (fun _ _ => rfl) (fun t => State.pumpLoop_keeps (·.lastProgressMs) on (fun _ _ _ => rfl) (fun _ _ _ => rfl) t o dests)
@[simp] theorem State.pumps_header (s : State) (o : Nat) (dests : List (Fin 32)) (on : Byte → Bool) : (s.pumps o dests on).header = s.header :=
  State.withBlock_keeps (·.header) s o _ (fun _ _ => rfl) (fun t => State.pumpLoop_keeps (·.header) on (fun _ _ _ => rfl) (fun _ _ _ => rfl) t o dests)
@[simp] theorem State.pumps_ready (s : State) (o : Nat) (dests : List (Fin 32)) (on : Byte → Bool) : (s.pumps o dests on).ready = s.ready :=
  State.withBlock_keeps (·.ready) s o _ (fun _ _ => rfl) (fun t => State.pumpLoop_keeps (·.ready) on (fun _ _ _ => rfl) (fun _ _ _ => rfl) t o dests)
@[simp] theorem State.pumps_busOk (s : State) (o : Nat) (dests : List (Fin 32)) (on : Byte → Bool) : (s.pumps o dests on).busOk = s.busOk :=
  State.withBlock_keeps (·.busOk) s o _ (fun _ _ => rfl) (fun t => State.pumpLoop_keeps (·.busOk) on (fun _ _ _ => rfl) (fun _ _ _ => rfl) t o dests)
@[simp] theorem State.pumps_temp (s : State) (o : Nat) (dests : List (Fin 32)) (on : Byte → Bool) : (s.pumps o dests on).temp = s.temp :=
  State.withBlock_keeps (·.temp) s o _ (fun _ _ => rfl) (fun t => State.pumpLoop_keeps (·.temp) on (fun _ _ _ => rfl) (fun _ _ _ => rfl) t o dests)
@[simp] theorem State.pumps_tempNum (s : State) (o : Nat) (dests : List (Fin 32)) (on : Byte → Bool) : (s.pumps o dests on).tempNum = s.tempNum :=
  State.withBlock_keeps (·.tempNum) s o _ (fun _ _ => rfl) (fun t => State.pumpLoop_keeps (·.tempNum) on (fun _ _ _ => rfl) (fun _ _ _ => rfl) t o dests)
@[simp] theorem State.pumps_pumpNum (s : State) (o : Nat) (dests : List (Fin 32)) (on : Byte → Bool) : (s.pumps o dests on).pumpNum = s.pumpNum :=
  State.withBlock_keeps (·.pumpNum) s o _ (fun _ _ => rfl) (fun t => State.pumpLoop_keeps (·.pumpNum) on (fun _ _ _ => rfl) (fun _ _ _ => rfl) t o dests)
@[simp] theorem State.pumps_relayNum (s : State) (o : Nat) (dests : List (Fin 32)) (on : Byte → Bool) : (s.pumps o dests on).relayNum = s.relayNum :=
  State.withBlock_keeps (·.relayNum) s o _ (fun _ _ => rfl) (fun t => State.pumpLoop_keeps (·.relayNum) on (fun _ _ _ => rfl) (fun _ _ _ => rfl) t o dests)
@[simp] theorem State.pumps_errorMask (s : State) (o : Nat) (dests : List (Fin 32)) (on : Byte → Bool) : (s.pumps o dests on).errorMask = s.errorMask :=
  State.withBlock_keeps (·.errorMask) s o _ (fun _ _ => rfl) (fun t => State.pumpLoop_keeps (·.errorMask) on (fun _ _ _ => rfl) (fun _ _ _ => rfl) t o dests)
@[simp] theorem State.pumps_systemTimeMinutes (s : State) (o : Nat) (dests : List (Fin 32)) (on : Byte → Bool) : (s.pumps o dests on).systemTimeMinutes = s.systemTimeMinutes :=
  State.withBlock_keeps (·.systemTimeMinutes) s o _ (fun _ _ => rfl) (fun t => State.pumpLoop_keeps (·.systemTimeMinutes) on (fun _ _ _ => rfl) (fun _ _ _ => rfl) t o dests)
@[simp] theorem State.pumps_heatQuantityWh (s : State) (o : Nat) (dests : List (Fin 32)) (on : Byte → Bool) : (s.pumps o dests on).heatQuantityWh = s.heatQuantityWh :=
  State.withBlock_keeps (·.heatQuantityWh) s o _ (fun _ _ => rfl) (fun t => State.pumpLoop_keeps (·.heatQuantityWh) on (fun _ _ _ => rfl) (fun _ _ _ => rfl) t o dests)
@[simp] theorem State.pumps_systemVariant (s : State) (o : Nat) (dests : List (Fin 32)) (on : Byte → Bool) : (s.pumps o dests on).systemVariant = s.systemVariant :=
  State.withBlock_keeps (·.systemVariant) s o _ (fun _ _ => rfl) (fun t => State.pumpLoop_keeps (·.systemVariant) on (fun _ _ _ => rfl) (fun _ _ _ => rfl) t o dests)
@[simp] theorem State.pumps_opHours (s : State) (o : Nat) (dests : List (Fin 32)) (on : Byte → Bool) : (s.pumps o dests on).opHours = s.opHours :=
  State.withBlock_keeps (·.opHours) s o _ (fun _ _ => rfl) (fun t => State.pumpLoop_keeps (·.opHours) on (fun _ _ _ => rfl) (fun _ _ _ => rfl) t o dests)
@[simp] theorem State.pumps_km (s : State) (o : Nat) (dests : List (Fin 32)) (on : Byte → Bool) : (s.pumps o dests on).km = s.km :=
  State.withBlock_keeps (·.km) s o _ (fun _ _ => rfl) (fun t => State.pumpLoop_keeps (·.km) on (fun _ _ _ => rfl) (fun _ _ _ => rfl) t o dests)
@[simp] theorem State.pumps_ports (s : State) (o : Nat) (dests : List (Fin 32)) (on : Byte → Bool) : (s.pumps o dests on).ports = s.ports :=
  State.withBlock_keeps (·.ports) s o _ (fun _ _ => rfl) (fun t => State.pumpLoop_keeps (·.ports) on (fun _ _ _ => rfl) (fun _ _ _ => rfl) t o dests)
@[simp] theorem State.pumps_wdogRearm (s : State) (o : Nat) (dests : List (Fin 32)) (on : Byte → Bool) : (s.pumps o dests on).wdogRearm = s.wdogRearm :=
  State.withBlock_keeps (·.wdogRearm) s o _ (fun _ _ => rfl) (fun t => State.pumpLoop_keeps (·.wdogRearm) on (fun _ _ _ => rfl) (fun _ _ _ => rfl) t o dests)
@[simp] theorem State.pumps_env (s : State) (o : Nat) (dests : List (Fin 32)) (on : Byte → Bool) : (s.pumps o dests on).env = s.env :=
  State.withBlock_keeps (·.env) s o _ (fun _ _ => rfl) (fun t => State.pumpLoop_keeps (·.env) on (fun _ _ _ => rfl) (fun _ _ _ => rfl) t o dests)
@[simp] theorem State.pumps_resets (s : State) (o : Nat) (dests : List (Fin 32)) (on : Byte → Bool) : (s.pumps o dests on).resets = s.resets :=
  State.withBlock_keeps (·.resets) s o _ (fun _ _ => rfl) (fun t => State.pumpLoop_keeps (·.resets) on (fun _ _ _ => rfl) (fun _ _ _ => rfl) t o dests)
theorem State.octet_pumps (s : State) (o : Nat) (dests : List (Fin 32)) (on : Byte → Bool) (x : Nat) :
    (s.pumps o dests on).octet x = if s.present o = true then (s.septetInject o 4).octet x else s.octet x :=
  State.octet_withBlock s o (fun t => State.pumpLoop on t o dests) (fun t x => State.octet_pumpLoop on t o dests x) x
theorem State.pumps_wf {s : State} {o : Nat} {dests : List (Fin 32)} {on : Byte → Bool} (h : s.buf.wf = true) (ho : o + 4 ≤ 255) :
    (s.pumps o dests on).buf.wf = true :=
  State.withBlock_wf h ho (fun t => State.pumpLoop_keeps (·.buf) on (fun _ _ _ => rfl) (fun _ _ _ => rfl) t o dests)

@[simp] theorem State.hoursBlock_protocol (s : State) (o : Nat) : (s.hoursBlock o).protocol = s.protocol :=
  State.withBlock_keeps (·.protocol) s o _ (fun _ _ => rfl) (fun _ => rfl)
@[simp] theorem State.hoursBlock_phase (s : State) (o : Nat) : (s.hoursBlock o).phase = s.phase :=
  State.withBlock_keeps (·.phase) s o _ (fun _ _ => rfl) (fun _ => rfl)
@[simp] theorem State.hoursBlock_writeIdx (s : State) (o : Nat) : (s.hoursBlock o).writeIdx = s.writeIdx :=
  State.withBlock_keeps (·.writeIdx) s o _ (fun _ _ => rfl) (fun _ => rfl)
@[simp] theorem State.hoursBlock_lastProgressMs (s : State) (o : Nat) : (s.hoursBlock o).lastProgressMs = s.lastProgressMs :=
  State.withBlock_keeps (·.lastProgressMs) s o _ (fun _ _ => rfl) (fun _ => rfl)
@[simp] theorem State.hoursBlock_header (s : State) (o : Nat) : (s.hoursBlock o).header = s.header :=
  State.withBlock_keeps (·.header) s o _ (fun _ _ => rfl) (fun _ => rfl)
@[simp] theorem State.hoursBlock_ready (s : State) (o : Nat) : (s.hoursBlock o).ready = s.ready :=
  State.withBlock_keeps (·.ready) s o _ (fun _ _ => rfl) (fun _ => rfl)
@[simp] theorem State.hoursBlock_busOk (s : State) (o : Nat) : (s.hoursBlock o).busOk = s.busOk :=
  State.withBlock_keeps (·.busOk) s o _ (fun _ _ => rfl) (fun _ => rfl)
@[simp] theorem State.hoursBlock_temp (s : State) (o : Nat) : (s.hoursBlock o).temp = s.temp :=
  State.withBlock_keeps (·.temp) s o _ (fun _ _ => rfl) (fun _ => rfl)
@[simp] theorem State.hoursBlock_pump (s : State) (o : Nat) : (s.hoursBlock o).pump = s.pump :=
  State.withBlock_keeps (·.pump) s o _ (fun _ _ => rfl) (fun _ => rfl)
@[simp] theorem State.hoursBlock_relay (s : State) (o : Nat) : (s.hoursBlock o).relay = s.relay :=
  State.withBlock_keeps (·.relay) s o _ (fun _ _ => rfl) (fun _ => rfl)
@[simp] theorem State.hoursBlock_tempNum (s : State) (o : Nat) : (s.hoursBlock o).tempNum = s.tempNum :=
  State.withBlock_keeps (·.tempNum) s o _ (fun _ _ => rfl) (fun _ => rfl)
@[simp] theorem State.hoursBlock_pumpNum (s : State) (o : Nat) : (s.hoursBlock o).pumpNum = s.pumpNum :=
  State.withBlock_keeps (·.pumpNum) s o _ (fun _ _ => rfl) (fun _ => rfl)
@[simp] theorem State.hoursBlock_relayNum (s : State) (o : Nat) : (s.hoursBlock o).relayNum = s.relayNum :=
  State.withBlock_keeps (·.relayNum) s o _ (fun _ _ => rfl) (fun _ => rfl)
@[simp] theorem State.hoursBlock_errorMask (s : State) (o : Nat) : (s.hoursBlock o).errorMask = s.errorMask :=
  State.withBlock_keeps (·.errorMask) s o _ (fun _ _ => rfl) (fun _ => rfl)
@[simp] theorem State.hoursBlock_systemTimeMinutes (s : State) (o : Nat) : (s.hoursBlock o).systemTimeMinutes = s.systemTimeMinutes :=
  State.withBlock_keeps (·.systemTimeMinutes) s o _ (fun _ _ => rfl) (fun _ => rfl)
@[simp] theorem State.hoursBlock_heatQuantityWh (s : State) (o : Nat) : (s.hoursBlock o).heatQuantityWh = s.heatQuantityWh :=
  State.withBlock_keeps (·.heatQuantityWh) s o _ (fun _ _ => rfl) (fun _ => rfl)
@[simp] theorem State.hoursBlock_systemVariant (s : State) (o : Nat) : (s.hoursBlock o).systemVariant = s.systemVariant :=
  State.withBlock_keeps (·.systemVariant) s o _ (fun _ _ => rfl) (fun _ => rfl)
@[simp] theorem State.hoursBlock_km (s : State) (o : Nat) : (s.hoursBlock o).km = s.km :=
  State.withBlock_keeps (·.km) s o _ (fun _ _ => rfl) (fun _ => rfl)
@[simp] theorem State.hoursBlock_ports (s : State) (o : Nat) : (s.hoursBlock o).ports = s.ports :=
  State.withBlock_keeps (·.ports) s o _ (fun _ _ => rfl) (fun _ => rfl)
@[simp] theorem State.hoursBlock_wdogRearm (s : State) (o : Nat) : (s.hoursBlock o).wdogRearm = s.wdogRearm :=
  State.withBlock_keeps (·.wdogRearm) s o _ (fun _ _ => rfl) (fun _ => rfl)
@[simp] theorem State.hoursBlock_env (s : State) (o : Nat) : (s.hoursBlock o).env = s.env :=
  State.withBlock_keeps (·.env) s o _ (fun _ _ => rfl) (fun _ => rfl)
@[simp] theorem State.hoursBlock_resets (s : State) (o : Nat) : (s.hoursBlock o).resets = s.resets :=
  State.withBlock_keeps (·.resets) s o _ (fun _ _ => rfl) (fun _ => rfl)
theorem State.octet_hoursBlock (s : State) (o : Nat) (x : Nat) :
    (s.hoursBlock o).octet x = if s.present o = true then (s.septetInject o 4).octet x else s.octet x :=
  State.octet_withBlock s o (fun t => (t.setOpHours 0 (hoursField t.octet o)).setOpHours 1 (hoursField t.octet (o + 2))) (fun _ _ => rfl) x
theorem State.hoursBlock_wf {s : State} {o : Nat} (h : s.buf.wf = true) (ho : o + 4 ≤ 255) :
    (s.hoursBlock o).buf.wf = true :=
  State.withBlock_wf h ho (fun _ => rfl)

@[simp] theorem State.heatBlock_protocol (s : State) (o : Nat) : (s.heatBlock o).protocol = s.protocol :=
  State.withBlock_keeps (·.protocol) s o _ (fun _ _ => rfl) (fun _ => rfl)
@[simp] theorem State.heatBlock_phase (s : State) (o : Nat) : (s.heatBlock o).phase = s.phase :=
  State.withBlock_keeps (·.phase) s o _ (fun _ _ => rfl) (fun _ => rfl)
@[simp] theorem State.heatBlock_writeIdx (s : State) (o : Nat) : (s.heatBlock o).writeIdx = s.writeIdx :=
  State.withBlock_keeps (·.writeIdx) s o _ (fun _ _ => rfl) (fun _ => rfl)
@[simp] theorem State.heatBlock_lastProgressMs (s : State) (o : Nat) : (s.heatBlock o).lastProgressMs = s.lastProgressMs :=
  State.withBlock_keeps (·.lastProgressMs) s o _ (fun _ _ => rfl) (fun _ => rfl)
@[simp] theorem State.heatBlock_header (s : State) (o : Nat) : (s.heatBlock o).header = s.header :=
  State.withBlock_keeps (·.header) s o _ (fun _ _ => rfl) (fun _ => rfl)
@[simp] theorem State.heatBlock_ready (s : State) (o : Nat) : (s.heatBlock o).ready = s.ready :=
  State.withBlock_keeps (·.ready) s o _ (fun _ _ => rfl) (fun _ => rfl)
@[simp] theorem State.heatBlock_busOk (s : State) (o : Nat) : (s.heatBlock o).busOk = s.busOk :=
  State.withBlock_keeps (·.busOk) s o _ (fun _ _ => rfl) (fun _ => rfl)
@[simp] theorem State.heatBlock_temp (s : State) (o : Nat) : (s.heatBlock o).temp = s.temp :=
  State.withBlock_keeps (·.temp) s o _ (fun _ _ => rfl) (fun _ => rfl)
@[simp] theorem State.heatBlock_pump (s : State) (o : Nat) : (s.heatBlock o).pump = s.pump :=
  State.withBlock_keeps (·.pump) s o _ (fun _ _ => rfl) (fun _ => rfl)
@[simp] theorem State.heatBlock_relay (s : State) (o : Nat) : (s.heatBlock o).relay = s.relay :=
  State.withBlock_keeps (·.relay) s o _ (fun _ _ => rfl) (fun _ => rfl)
@[simp] theorem State.heatBlock_tempNum (s : State) (o : Nat) : (s.heatBlock o).tempNum = s.tempNum :=
  State.withBlock_keeps (·.tempNum) s o _ (fun _ _ => rfl) (fun _ => rfl)
@[simp] theorem State.heatBlock_pumpNum (s : State) (o : Nat) : (s.heatBlock o).pumpNum = s.pumpNum :=
  State.withBlock_keeps (·.pumpNum) s o _ (fun _ _ => rfl) (fun _ => rfl)
@[simp] theorem State.heatBlock_relayNum (s : State) (o : Nat) : (s.heatBlock o).relayNum = s.relayNum :=
  State.withBlock_keeps (·.relayNum) s o _ (fun _ _ => rfl) (fun _ => rfl)
@[simp] theorem State.heatBlock_errorMask (s : State) (o : Nat) : (s.heatBlock o).errorMask = s.errorMask :=
  State.withBlock_keeps (·.errorMask) s o _ (fun _ _ => rfl) (fun _ => rfl)
@[simp] theorem State.heatBlock_systemTimeMinutes (s : State) (o : Nat) : (s.heatBlock o).systemTimeMinutes = s.systemTimeMinutes :=
  State.withBlock_keeps (·.systemTimeMinutes) s o _ (fun _ _ => rfl) (fun _ => rfl)
@[simp] theorem State.heatBlock_systemVariant (s : State) (o : Nat) : (s.heatBlock o).systemVariant = s.systemVariant :=
  State.withBlock_keeps (·.systemVariant) s o _ (fun _ _ => rfl) (fun _ => rfl)
@[simp] theorem State.heatBlock_opHours (s : State) (o : Nat) : (s.heatBlock o).opHours = s.opHours :=
  State.withBlock_keeps (·.opHours) s o _ (fun _ _ => rfl) (fun _ => rfl)
@[simp] theorem State.heatBlock_km (s : State) (o : Nat) : (s.heatBlock o).km = s.km :=
  State.withBlock_keeps (·.km) s o _ (fun _ _ => rfl) (fun _ => rfl)
@[simp] theorem State.heatBlock_ports (s : State) (o : Nat) : (s.heatBlock o).ports = s.ports :=
  State.withBlock_keeps (·.ports) s o _ (fun _ _ => rfl) (fun _ => rfl)
@[simp] theorem State.heatBlock_wdogRearm (s : State) (o : Nat) : (s.heatBlock o).wdogRearm = s.wdogRearm :=
  State.withBlock_keeps (·.wdogRearm) s o _ (fun _ _ => rfl) (fun _ => rfl)
@[simp] theorem State.heatBlock_env (s : State) (o : Nat) : (s.heatBlock o).env = s.env :=
  State.withBlock_keeps (·.env) s o _ (fun _ _ => rfl) (fun _ => rfl)
@[simp] theorem State.heatBlock_resets (s : State) (o : Nat) : (s.heatBlock o).resets = s.resets :=
  State.withBlock_keeps (·.resets) s o _ (fun _ _ => rfl) (fun _ => rfl)
theorem State.octet_heatBlock (s : State) (o : Nat) (x : Nat) :
    (s.heatBlock o).octet x = if s.present o = true then (s.septetInject o 4).octet x else s.octet x :=
  State.octet_withBlock s o (fun t => { t with heatQuantityWh := le16 t.octet o }) (fun _ _ => rfl) x
theorem State.heatBlock_wf {s : State} {o : Nat} (h : s.buf.wf = true) (ho : o + 4 ≤ 255) :
    (s.heatBlock o).buf.wf = true :=
  State.withBlock_wf h ho (fun _ => rfl)

@[simp] theorem State.maskAndTimeBlock_protocol (s : State) (o : Nat) : (s.maskAndTimeBlock o).protocol = s.protocol :=
  State.withBlock_keeps (·.protocol) s o _ (fun _ _ => rfl) (fun _ => rfl)
@[simp] theorem State.maskAndTimeBlock_phase (s : State) (o : Nat) : (s.maskAndTimeBlock o).phase = s.phase :=
  State.withBlock_keeps (·.phase) s o _ (fun _ _ => rfl) (fun _ => rfl)
@[simp] theorem State.maskAndTimeBlock_writeIdx (s : State) (o : Nat) : (s.maskAndTimeBlock o).writeIdx = s.writeIdx :=
  State.withBlock_keeps (·.writeIdx) s o _ (fun _ _ => rfl) (fun _ => rfl)
@[simp] theorem State.maskAndTimeBlock_lastProgressMs (s : State) (o : Nat) : (s.maskAndTimeBlock o).lastProgressMs = s.lastProgressMs :=
  State.withBlock_keeps (·.lastProgressMs) s o _ (fun _ _ => rfl) (fun _ => rfl)
@[simp] theorem State.maskAndTimeBlock_header (s : State) (o : Nat) : (s.maskAndTimeBlock o).header = s.header :=
  State.withBlock_keeps (·.header) s o _ (fun _ _ => rfl) (fun _ => rfl)
@[simp] theorem State.maskAndTimeBlock_ready (s : State) (o : Nat) : (s.maskAndTimeBlock o).ready = s.ready :=
  State.withBlock_keeps (·.ready) s o _ (fun _ _ => rfl) (fun _ => rfl)
@[simp] theorem State.maskAndTimeBlock_busOk (s : State) (o : Nat) : (s.maskAndTimeBlock o).busOk = s.busOk :=
  State.withBlock_keeps (·.busOk) s o _ (fun _ _ => rfl) (fun _ => rfl)
@[simp] theorem State.maskAndTimeBlock_temp (s : State) (o : Nat) : (s.maskAndTimeBlock o).temp = s.temp :=
  State.withBlock_keeps (·.temp) s o _ (fun _ _ => rfl) (fun _ => rfl)
@[simp] theorem State.maskAndTimeBlock_pump (s : State) (o : Nat) : (s.maskAndTimeBlock o).pump = s.pump :=
  State.withBlock_keeps (·.pump) s o _ (fun _ _ => rfl) (fun _ => rfl)
@[simp] theorem State.maskAndTimeBlock_relay (s : State) (o : Nat) : (s.maskAndTimeBlock o).relay = s.relay :=
  State.withBlock_keeps (·.relay) s o _ (fun _ _ => rfl) (fun _ => rfl)
@[simp] theorem State.maskAndTimeBlock_tempNum (s : State) (o : Nat) : (s.maskAndTimeBlock o).tempNum = s.tempNum :=
  State.withBlock_keeps (·.tempNum) s o _ (fun _ _ => rfl) (fun _ => rfl)
@[simp] theorem State.maskAndTimeBlock_pumpNum (s : State) (o : Nat) : (s.maskAndTimeBlock o).pumpNum = s.pumpNum :=
  State.withBlock_keeps (·.pumpNum) s o _ (fun _ _ => rfl) (fun _ => rfl)
@[simp] theorem State.maskAndTimeBlock_relayNum (s : State) (o : Nat) : (s.maskAndTimeBlock o).relayNum = s.relayNum :=
  State.withBlock_keeps (·.relayNum) s o _ (fun _ _ => rfl) (fun _ => rfl)
@[simp] theorem State.maskAndTimeBlock_heatQuantityWh (s : State) (o : Nat) : (s.maskAndTimeBlock o).heatQuantityWh = s.heatQuantityWh :=
  State.withBlock_keeps (·.heatQuantityWh) s o _ (fun _ _ => rfl) (fun _ => rfl)
@[simp] theorem State.maskAndTimeBlock_systemVariant (s : State) (o : Nat) : (s.maskAndTimeBlock o).systemVariant = s.systemVariant :=
  State.withBlock_keeps (·.systemVariant) s o _ (fun _ _ => rfl) (fun _ => rfl)
@[simp] theorem State.maskAndTimeBlock_opHours (s : State) (o : Nat) : (s.maskAndTimeBlock o).opHours = s.opHours :=
  State.withBlock_keeps (·.opHours) s o _ (fun _ _ => rfl) (fun _ => rfl)
@[simp] theorem State.maskAndTimeBlock_km (s : State) (o : Nat) : (s.maskAndTimeBlock o).km = s.km :=
  State.withBlock_keeps (·.km) s o _ (fun _ _ => rfl) (fun _ => rfl)
@[simp] theorem State.maskAndTimeBlock_ports (s : State) (o : Nat) : (s.maskAndTimeBlock o).ports = s.ports :=
  State.withBlock_keeps (·.ports) s o _ (fun _ _ => rfl) (fun _ => rfl)
@[simp] theorem State.maskAndTimeBlock_wdogRearm (s : State) (o : Nat) : (s.maskAndTimeBlock o).wdogRearm = s.wdogRearm :=
  State.withBlock_keeps (·.wdogRearm) s o _ (fun _ _ => rfl) (fun _ => rfl)
@[simp] theorem State.maskAndTimeBlock_env (s : State) (o : Nat) : (s.maskAndTimeBlock o).env = s.env :=
  State.withBlock_keeps (·.env) s o _ (fun _ _ => rfl) (fun _ => rfl)
@[simp] theorem State.maskAndTimeBlock_resets (s : State) (o : Nat) : (s.maskAndTimeBlock o).resets = s.resets :=
  State.withBlock_keeps (·.resets) s o _ (fun _ _ => rfl) (fun _ => rfl)
theorem State.octet_maskAndTimeBlock (s : State) (o : Nat) (x : Nat) :
    (s.maskAndTimeBlock o).octet x = if s.present o = true then (s.septetInject o 4).octet x else s.octet x :=
  State.octet_withBlock s o (fun t => { t with errorMask := le16 t.octet o, systemTimeMinutes := le16 t.octet (o + 2) }) (fun _ _ => rfl) x
theorem State.maskAndTimeBlock_wf {s : State} {o : Nat} (h : s.buf.wf = true) (ho : o + 4 ≤ 255) :
    (s.maskAndTimeBlock o).buf.wf = true :=
  State.withBlock_wf h ho (fun _ => rfl)

@[simp] theorem State.variantBlock_protocol (s : State) (o : Nat) : (s.variantBlock o).protocol = s.protocol :=
  State.withBlock_keeps (·.protocol) s o _ (fun _ _ => rfl) (fun _ => rfl)
@[simp] theorem State.variantBlock_phase (s : State) (o : Nat) : (s.variantBlock o).phase = s.phase :=
  State.withBlock_keeps (·.phase) s o _ (fun _ _ => rfl) (fun _ => rfl)
@[simp] theorem State.variantBlock_writeIdx (s : State) (o : Nat) : (s.variantBlock o).writeIdx = s.writeIdx :=
  State.withBlock_keeps (·.writeIdx) s o _ (fun _ _ => rfl) (fun _ => rfl)
@[simp] theorem State.variantBlock_lastProgressMs (s : State) (o : Nat) : (s.variantBlock o).lastProgressMs = s.lastProgressMs :=
  State.withBlock_keeps (·.lastProgressMs) s o _ (fun _ _ => rfl) (fun _ => rfl)
@[simp] theorem State.variantBlock_header (s : State) (o : Nat) : (s.variantBlock o).header = s.header :=
  State.withBlock_keeps (·.header) s o _ (fun _ _ => rfl) (fun _ => rfl)
@[simp] theorem State.variantBlock_ready (s : State) (o : Nat) : (s.variantBlock o).ready = s.ready :=
  State.withBlock_keeps (·.ready) s o _ (fun _ _ => rfl) (fun _ => rfl)
@[simp] theorem State.variantBlock_busOk (s : State) (o : Nat) : (s.variantBlock o).busOk = s.busOk :=
  State.withBlock_keeps (·.busOk) s o _ (fun _ _ => rfl) (fun _ => rfl)
@[simp] theorem State.variantBlock_temp (s : State) (o : Nat) : (s.variantBlock o).temp = s.temp :=
  State.withBlock_keeps (·.temp) s o _ (fun _ _ => rfl) (fun _ => rfl)
@[simp] theorem State.variantBlock_pump (s : State) (o : Nat) : (s.variantBlock o).pump = s.pump :=
  State.withBlock_keeps (·.pump) s o _ (fun _ _ => rfl) (fun _ => rfl)
@[simp] theorem State.variantBlock_relay (s : State) (o : Nat) : (s.variantBlock o).relay = s.relay :=
  State.withBlock_keeps (·.relay) s o _ (fun _ _ => rfl) (fun _ => rfl)
@[simp] theorem State.variantBlock_tempNum (s : State) (o : Nat) : (s.variantBlock o).tempNum = s.tempNum :=
  State.withBlock_keeps (·.tempNum) s o _ (fun _ _ => rfl) (fun _ => rfl)
@[simp] theorem State.variantBlock_pumpNum (s : State) (o : Nat) : (s.variantBlock o).pumpNum = s.pumpNum :=
  State.withBlock_keeps (·.pumpNum) s o _ (fun _ _ => rfl) (fun _ => rfl)
@[simp] theorem State.variantBlock_relayNum (s : State) (o : Nat) : (s.variantBlock o).relayNum = s.relayNum :=
  State.withBlock_keeps (·.relayNum) s o _ (fun _ _ => rfl) (fun _ => rfl)
@[simp] theorem State.variantBlock_errorMask (s : State) (o : Nat) : (s.variantBlock o).errorMask = s.errorMask :=
  State.withBlock_keeps (·.errorMask) s o _ (fun _ _ => rfl) (fun _ => rfl)
@[simp] theorem State.variantBlock_systemTimeMinutes (s : State) (o : Nat) : (s.variantBlock o).systemTimeMinutes = s.systemTimeMinutes :=
  State.withBlock_keeps (·.systemTimeMinutes) s o _ (fun _ _ => rfl) (fun _ => rfl)
@[simp] theorem State.variantBlock_heatQuantityWh (s : State) (o : Nat) : (s.variantBlock o).heatQuantityWh = s.heatQuantityWh :=
  State.withBlock_keeps (·.heatQuantityWh) s o _ (fun _ _ => rfl) (fun _ => rfl)
@[simp] theorem State.variantBlock_opHours (s : State) (o : Nat) : (s.variantBlock o).opHours = s.opHours :=
  State.withBlock_keeps (·.opHours) s o _ (fun _ _ => rfl) (fun _ => rfl)
@[simp] theorem State.variantBlock_km (s : State) (o : Nat) : (s.variantBlock o).km = s.km :=
  State.withBlock_keeps (·.km) s o _ (fun _ _ => rfl) (fun _ => rfl)
@[simp] theorem State.variantBlock_ports (s : State) (o : Nat) : (s.variantBlock o).ports = s.ports :=
  State.withBlock_keeps (·.ports) s o _ (fun _ _ => rfl) (fun _ => rfl)
@[simp] theorem State.variantBlock_wdogRearm (s : State) (o : Nat) : (s.variantBlock o).wdogRearm = s.wdogRearm :=
  State.withBlock_keeps (·.wdogRearm) s o _ (fun _ _ => rfl) (fun _ => rfl)
@[simp] theorem State.variantBlock_env (s : State) (o : Nat) : (s.variantBlock o).env = s.env :=
  State.withBlock_keeps (·.env) s o _ (fun _ _ => rfl) (fun _ => rfl)
@[simp] theorem State.variantBlock_resets (s : State) (o : Nat) : (s.variantBlock o).resets = s.resets :=
  State.withBlock_keeps (·.resets) s o _ (fun _ _ => rfl) (fun _ => rfl)
theorem State.octet_variantBlock (s : State) (o : Nat) (x : Nat) :
    (s.variantBlock o).octet x = if s.present o = true then (s.septetInject o 4).octet x else s.octet x :=
  State.octet_withBlock s o (fun t => { t with systemVariant := t.octet o }) (fun _ _ => rfl) x
theorem State.variantBlock_wf {s : State} {o : Nat} (h : s.buf.wf = true) (ho : o + 4 ≤ 255) :
    (s.variantBlock o).buf.wf = true :=
  State.withBlock_wf h ho (fun _ => rfl)

@[simp] theorem State.maskBlock_protocol (s : State) (o : Nat) : (s.maskBlock o).protocol = s.protocol :=
  State.withBlock_keeps (·.protocol) s o _ (fun _ _ => rfl) (fun _ => rfl)
@[simp] theorem State.maskBlock_phase (s : State) (o : Nat) : (s.maskBlock o).phase = s.phase :=
  State.withBlock_keeps (·.phase) s o _ (fun _ _ => rfl) (fun _ => rfl)
@[simp] theorem State.maskBlock_writeIdx (s : State) (o : Nat) : (s.maskBlock o).writeIdx = s.writeIdx :=
  State.withBlock_keeps (·.writeIdx) s o _ (fun _ _ => rfl) (fun _ => rfl)
@[simp] theorem State.maskBlock_lastProgressMs (s : State) (o : Nat) : (s.maskBlock o).lastProgressMs = s.lastProgressMs :=
  State.withBlock_keeps (·.lastProgressMs) s o _ (fun _ _ => rfl) (fun _ => rfl)
@[simp] theorem State.maskBlock_header (s : State) (o : Nat) : (s.maskBlock o).header = s.header :=
  State.withBlock_keeps (·.header) s o _ (fun _ _ => rfl) (fun _ => rfl)
@[simp] theorem State.maskBlock_ready (s : State) (o : Nat) : (s.maskBlock o).ready = s.ready :=
  State.withBlock_keeps (·.ready) s o _ (fun _ _ => rfl) (fun _ => rfl)
@[simp] theorem State.maskBlock_busOk (s : State) (o : Nat) : (s.maskBlock o).busOk = s.busOk :=
  State.withBlock_keeps (·.busOk) s o _ (fun _ _ => rfl) (fun _ => rfl)
@[simp] theorem State.maskBlock_temp (s : State) (o : Nat) : (s.maskBlock o).temp = s.temp :=
  State.withBlock_keeps (·.temp) s o _ (fun _ _ => rfl) (fun _ => rfl)
@[simp] theorem State.maskBlock_pump (s : State) (o : Nat) : (s.maskBlock o).pump = s.pump :=
  State.withBlock_keeps (·.pump) s o _ (fun _ _ => rfl) (fun _ => rfl)
@[simp] theorem State.maskBlock_relay (s : State) (o : Nat) : (s.maskBlock o).relay = s.relay :=
  State.withBlock_keeps (·.relay) s o _ (fun _ _ => rfl) (fun _ => rfl)
@[simp] theorem State.maskBlock_tempNum (s : State) (o : Nat) : (s.maskBlock o).tempNum = s.tempNum :=
  State.withBlock_keeps (·.tempNum) s o _ (fun _ _ => rfl) (fun _ => rfl)
@[simp] theorem State.maskBlock_pumpNum (s : State) (o : Nat) : (s.maskBlock o).pumpNum = s.pumpNum :=
  State.withBlock_keeps (·.pumpNum) s o _ (fun _ _ => rfl) (fun _ => rfl)
@[simp] theorem State.maskBlock_relayNum (s : State) (o : Nat) : (s.maskBlock o).relayNum = s.relayNum :=
  State.withBlock_keeps (·.relayNum) s o _ (fun _ _ => rfl) (fun _ => rfl)
@[simp] theorem State.maskBlock_systemTimeMinutes (s : State) (o : Nat) : (s.maskBlock o).systemTimeMinutes = s.systemTimeMinutes :=
  State.withBlock_keeps (·.systemTimeMinutes) s o _ (fun _ _ => rfl) (fun _ => rfl)
@[simp] theorem State.maskBlock_heatQuantityWh (s : State) (o : Nat) : (s.maskBlock o).heatQuantityWh = s.heatQuantityWh :=
  State.withBlock_keeps (·.heatQuantityWh) s o _ (fun _ _ => rfl) (fun _ => rfl)
@[simp] theorem State.maskBlock_systemVariant (s : State) (o : Nat) : (s.maskBlock o).systemVariant = s.systemVariant :=
  State.withBlock_keeps (·.systemVariant) s o _ (fun _ _ => rfl) (fun _ => rfl)
@[simp] theorem State.maskBlock_opHours (s : State) (o : Nat) : (s.maskBlock o).opHours = s.opHours :=
  State.withBlock_keeps (·.opHours) s o _ (fun _ _ => rfl) (fun _ => rfl)
@[simp] theorem State.maskBlock_km (s : State) (o : Nat) : (s.maskBlock o).km = s.km :=
  State.withBlock_keeps (·.km) s o _ (fun _ _ => rfl) (fun _ => rfl)
@[simp] theorem State.maskBlock_ports (s : State) (o : Nat) : (s.maskBlock o).ports = s.ports :=
  State.withBlock_keeps (·.ports) s o _ (fun _ _ => rfl) (fun _ => rfl)
@[simp] theorem State.maskBlock_wdogRearm (s : State) (o : Nat) : (s.maskBlock o).wdogRearm = s.wdogRearm :=
  State.withBlock_keeps (·.wdogRearm) s o _ (fun _ _ => rfl) (fun _ => rfl)
@[simp] theorem State.maskBlock_env (s : State) (o : Nat) : (s.maskBlock o).env = s.env :=
  State.withBlock_keeps (·.env) s o _ (fun _ _ => rfl) (fun _ => rfl)
@[simp] theorem State.maskBlock_resets (s : State) (o : Nat) : (s.maskBlock o).resets = s.resets :=
  State.withBlock_keeps (·.resets) s o _ (fun _ _ => rfl) (fun _ => rfl)
theorem State.octet_maskBlock (s : State) (o : Nat) (x : Nat) :
    (s.maskBlock o).octet x = if s.present o = true then (s.septetInject o 4).octet x else s.octet x :=
  State.octet_withBlock s o (fun t => { t with errorMask := le16 t.octet o }) (fun _ _ => rfl) x
theorem State.maskBlock_wf {s : State} {o : Nat} (h : s.buf.wf = true) (ho : o + 4 ≤ 255) :
    (s.maskBlock o).buf.wf = true :=
  State.withBlock_wf h ho (fun _ => rfl)

/-! ### What each block form writes -/

/-- `TEMP2` (R188). -/
theorem State.temp2_temp (s : State) (o : Nat) (lo hi : Fin 32) :
    (s.temp2 o lo hi).temp =
      if s.present o = true then
        (s.temp.set lo.val (injected16 s o 0) lo.isLt).set hi.val (injected16 s o 2) hi.isLt
      else s.temp := by
  unfold State.temp2 State.withBlock
  split
  · have h0 := s.le16_septetInject o (i := 0) (by omega)
    have h2 := s.le16_septetInject o (i := 2) (by omega)
    rw [Nat.add_zero] at h0
    simp only [State.setTemp_temp, State.septetInject_temp]
    rw [h2, h0]
  · rfl

/-- The operating-hours block (R190, R191). -/
theorem State.hoursBlock_opHours (s : State) (o : Nat) :
    (s.hoursBlock o).opHours =
      if s.present o = true then
        (s.opHours.set 0 ((injected16 s o 0).setWidth 32)).set 1 ((injected16 s o 2).setWidth 32)
      else s.opHours := by
  unfold State.hoursBlock State.withBlock
  split
  · have h0 := s.le16_septetInject o (i := 0) (by omega)
    have h2 := s.le16_septetInject o (i := 2) (by omega)
    rw [Nat.add_zero] at h0
    simp only [State.setOpHours_opHours, State.septetInject_opHours, hoursField]
    rw [h2, h0]
    rfl
  · rfl

/-- The heat-quantity block (R190, R191). -/
theorem State.heatBlock_heatQuantityWh (s : State) (o : Nat) :
    (s.heatBlock o).heatQuantityWh = if s.present o = true then injected16 s o 0 else s.heatQuantityWh := by
  unfold State.heatBlock State.withBlock
  split
  · exact s.le16_septetInject o (i := 0) (by omega)
  · rfl

/-- The error mask and system time of the Vitosolic (R189). -/
theorem State.maskAndTimeBlock_writes (s : State) (o : Nat) :
    (s.maskAndTimeBlock o).errorMask = (if s.present o = true then injected16 s o 0 else s.errorMask) ∧
      (s.maskAndTimeBlock o).systemTimeMinutes =
        (if s.present o = true then injected16 s o 2 else s.systemTimeMinutes) := by
  unfold State.maskAndTimeBlock State.withBlock
  split
  · exact ⟨s.le16_septetInject o (i := 0) (by omega), s.le16_septetInject o (i := 2) (by omega)⟩
  · exact ⟨rfl, rfl⟩

/-- The system variant of the Vitosolic (R189). -/
theorem State.variantBlock_systemVariant (s : State) (o : Nat) :
    (s.variantBlock o).systemVariant = if s.present o = true then injected s o 0 else s.systemVariant := by
  unfold State.variantBlock State.withBlock
  split
  · exact s.octet_septetInject_data o (i := 0) (by omega)
  · rfl

/-- The error mask of the MX (R191). -/
theorem State.maskBlock_errorMask (s : State) (o : Nat) :
    (s.maskBlock o).errorMask = if s.present o = true then injected16 s o 0 else s.errorMask := by
  unfold State.maskBlock State.withBlock
  split
  · exact s.le16_septetInject o (i := 0) (by omega)
  · rfl

/-- `PUMPS` (R188): the loop runs over the octets after the injection. -/
theorem State.pumps_eq (s : State) (o : Nat) (dests : List (Fin 32)) (on : Byte → Bool) :
    s.pumps o dests on = if s.present o = true then State.pumpLoop on (s.septetInject o 4) o dests else s :=
  rfl

/-- Bit 7 of every pump register stays 0. -/
theorem State.pumps_range {s : State} {o : Nat} {dests : List (Fin 32)} {on : Byte → Bool}
    (h : ∀ i : Fin 32, (s.pump.get i).toNat < 128) (i : Fin 32) : ((s.pumps o dests on).pump.get i).toNat < 128 := by
  rw [State.pumps_eq]
  split
  · exact State.pumpLoop_range (by simpa using h) i
  · exact h i

/-! ### The placeholder extractor and the KM record -/

@[simp] theorem State.kwpTemps_protocol (s : State) (start n : Nat) : (s.kwpTemps start n).protocol = s.protocol := by
  induction n with
  | zero => rfl
  | succ n ih => exact ih
@[simp] theorem State.kwpTemps_phase (s : State) (start n : Nat) : (s.kwpTemps start n).phase = s.phase := by
  induction n with
  | zero => rfl
  | succ n ih => exact ih
@[simp] theorem State.kwpTemps_writeIdx (s : State) (start n : Nat) : (s.kwpTemps start n).writeIdx = s.writeIdx := by
  induction n with
  | zero => rfl
  | succ n ih => exact ih
@[simp] theorem State.kwpTemps_lastProgressMs (s : State) (start n : Nat) : (s.kwpTemps start n).lastProgressMs = s.lastProgressMs := by
  induction n with
  | zero => rfl
  | succ n ih => exact ih
@[simp] theorem State.kwpTemps_buf (s : State) (start n : Nat) : (s.kwpTemps start n).buf = s.buf := by
  induction n with
  | zero => rfl
  | succ n ih => exact ih
@[simp] theorem State.kwpTemps_header (s : State) (start n : Nat) : (s.kwpTemps start n).header = s.header := by
  induction n with
  | zero => rfl
  | succ n ih => exact ih
@[simp] theorem State.kwpTemps_ready (s : State) (start n : Nat) : (s.kwpTemps start n).ready = s.ready := by
  induction n with
  | zero => rfl
  | succ n ih => exact ih
@[simp] theorem State.kwpTemps_busOk (s : State) (start n : Nat) : (s.kwpTemps start n).busOk = s.busOk := by
  induction n with
  | zero => rfl
  | succ n ih => exact ih
@[simp] theorem State.kwpTemps_pump (s : State) (start n : Nat) : (s.kwpTemps start n).pump = s.pump := by
  induction n with
  | zero => rfl
  | succ n ih => exact ih
@[simp] theorem State.kwpTemps_relay (s : State) (start n : Nat) : (s.kwpTemps start n).relay = s.relay := by
  induction n with
  | zero => rfl
  | succ n ih => exact ih
@[simp] theorem State.kwpTemps_tempNum (s : State) (start n : Nat) : (s.kwpTemps start n).tempNum = s.tempNum := by
  induction n with
  | zero => rfl
  | succ n ih => exact ih
@[simp] theorem State.kwpTemps_pumpNum (s : State) (start n : Nat) : (s.kwpTemps start n).pumpNum = s.pumpNum := by
  induction n with
  | zero => rfl
  | succ n ih => exact ih
@[simp] theorem State.kwpTemps_relayNum (s : State) (start n : Nat) : (s.kwpTemps start n).relayNum = s.relayNum := by
  induction n with
  | zero => rfl
  | succ n ih => exact ih
@[simp] theorem State.kwpTemps_errorMask (s : State) (start n : Nat) : (s.kwpTemps start n).errorMask = s.errorMask := by
  induction n with
  | zero => rfl
  | succ n ih => exact ih
@[simp] theorem State.kwpTemps_systemTimeMinutes (s : State) (start n : Nat) : (s.kwpTemps start n).systemTimeMinutes = s.systemTimeMinutes := by
  induction n with
  | zero => rfl
  | succ n ih => exact ih
@[simp] theorem State.kwpTemps_heatQuantityWh (s : State) (start n : Nat) : (s.kwpTemps start n).heatQuantityWh = s.heatQuantityWh := by
  induction n with
  | zero => rfl
  | succ n ih => exact ih
@[simp] theorem State.kwpTemps_systemVariant (s : State) (start n : Nat) : (s.kwpTemps start n).systemVariant = s.systemVariant := by
  induction n with
  | zero => rfl
  | succ n ih => exact ih
@[simp] theorem State.kwpTemps_opHours (s : State) (start n : Nat) : (s.kwpTemps start n).opHours = s.opHours := by
  induction n with
  | zero => rfl
  | succ n ih => exact ih
@[simp] theorem State.kwpTemps_km (s : State) (start n : Nat) : (s.kwpTemps start n).km = s.km := by
  induction n with
  | zero => rfl
  | succ n ih => exact ih
@[simp] theorem State.kwpTemps_ports (s : State) (start n : Nat) : (s.kwpTemps start n).ports = s.ports := by
  induction n with
  | zero => rfl
  | succ n ih => exact ih
@[simp] theorem State.kwpTemps_wdogRearm (s : State) (start n : Nat) : (s.kwpTemps start n).wdogRearm = s.wdogRearm := by
  induction n with
  | zero => rfl
  | succ n ih => exact ih
@[simp] theorem State.kwpTemps_env (s : State) (start n : Nat) : (s.kwpTemps start n).env = s.env := by
  induction n with
  | zero => rfl
  | succ n ih => exact ih
@[simp] theorem State.kwpTemps_resets (s : State) (start n : Nat) : (s.kwpTemps start n).resets = s.resets := by
  induction n with
  | zero => rfl
  | succ n ih => exact ih
@[simp] theorem State.octet_kwpTemps (s : State) (start n x : Nat) : (s.kwpTemps start n).octet x = s.octet x :=
  State.octet_congr (by simp) (by simp) x

/-- The first `n` temperatures of `KWP_EXTRACT` (45_decode_kw_p300_km.md R210). -/
theorem State.kwpTemps_get (s : State) (start : Nat) {n : Nat} (hn : n ≤ 32) (j : Fin 32) :
    (s.kwpTemps start n).temp.get j = if j.val < n then be16 s.octet (start + 2 * j.val) else s.temp.get j := by
  induction n with
  | zero => rfl
  | succ n ih =>
    have hv : (Fin.ofNat 32 n).val = n := by simp [Fin.ofNat]; omega
    have hb : be16 (s.kwpTemps start n).octet (start + 2 * n) = be16 s.octet (start + 2 * n) := by simp [be16]
    simp only [State.kwpTemps, State.setTemp_temp, Vector.get_eq_getElem, Vector.getElem_set, hv, hb]
    by_cases hj : n = j.val
    · simp [hj]
    · rw [if_neg hj]
      have := ih (by omega)
      rw [Vector.get_eq_getElem] at this
      rw [this]
      have : (j.val < n) ↔ (j.val < n + 1) := by omega
      simp only [this]
      rfl

theorem kwpCount_le (len : Byte) (start : Nat) : kwpCount len start ≤ 4 := Nat.min_le_left ..

end Sys2Proof.Machine
end

