-- ==== Sys2Proof/Laws/Checks.lean ====
section
/-! SUPPORT. The integrity checks of Machine/Flags.lean: which octets each reads, and the block check as a statement
about every block. -/

namespace Sys2Proof.Machine

variable {rd rd' : Nat → Byte}

theorem calcCrc_congr {off len : Nat} (h : ∀ i < len, rd' (off + i) = rd (off + i)) :
    calcCrc rd' off len = calcCrc rd off len := by
  induction len with
  | zero => rfl
  | succ n ih => simp only [calcCrc]; rw [ih fun i hi => h i (by omega), h n (by omega)]

theorem xorRange_congr {a len : Nat} (h : ∀ i < len, rd' (a + i) = rd (a + i)) :
    xorRange rd' a len = xorRange rd a len := by
  induction len with
  | zero => rfl
  | succ n ih => simp only [xorRange]; rw [ih fun i hi => h i (by omega), h n (by omega)]

theorem sum8Range_congr {a len : Nat} (h : ∀ i < len, rd' (a + i) = rd (a + i)) :
    sum8Range rd' a len = sum8Range rd a len := by
  induction len with
  | zero => rfl
  | succ n ih => simp only [sum8Range]; rw [ih fun i hi => h i (by omega), h n (by omega)]

theorem crcRegister_congr {off len : Nat} (h : ∀ i < len, rd' (off + i) = rd (off + i)) :
    crcRegister rd' off len = crcRegister rd off len := by
  induction len with
  | zero => rfl
  | succ n ih => simp only [crcRegister]; rw [ih fun i hi => h i (by omega), h n (by omega)]

theorem crc16km_congr {off len : Nat} (h : ∀ i < len, rd' (off + i) = rd (off + i)) :
    crc16km rd' off len = crc16km rd off len := by
  unfold crc16km; rw [crcRegister_congr h]

/-- `blocksOK()` (41_vbus_receive.md R128). -/
theorem blocksOk_iff {n : Nat} : blocksOk rd n = true ↔ ∀ k < n, calcCrc rd (9 + 6 * k) 6 = 0 := by
  induction n with
  | zero => simp [blocksOk]
  | succ n ih =>
    simp only [blocksOk, Bool.and_eq_true, beq_iff_eq, ih]
    constructor
    · rintro ⟨h1, h2⟩ k hk
      by_cases hkn : k = n
      · rw [hkn]; exact h2
      · exact h1 k (by omega)
    · intro h; exact ⟨fun k hk => h k (by omega), h n (by omega)⟩

/-- The block checks of `n` blocks read indices 9 to `8 + 6 * n`. -/
theorem blocksOk_congr {n : Nat} (h : ∀ a < 9 + 6 * n, rd' a = rd a) : blocksOk rd' n = blocksOk rd n := by
  induction n with
  | zero => rfl
  | succ n ih =>
    simp only [blocksOk]
    rw [ih fun a ha => h a (by omega), calcCrc_congr fun i hi => h (9 + 6 * n + i) (by omega)]

end Sys2Proof.Machine
end

