-- ==== Sys2Proof/Laws/Exec.lean ====
section
/-! SUPPORT. One equation per operation: what `exec` answers for it, in the shared operations. -/

namespace Sys2Proof.Machine

variable (s : State) (b : Byte)

theorem exec_reset : exec .reset s =
    .next (State.afterReset s.ports s.wdogRearm s.env (s.resets + 1)) := rfl

theorem exec_err : exec .err s =
    .next s.leaveError := rfl

theorem exec_wdog : exec .wdog s =
    .next (State.raiseError (if s.wdogRearm then { s with lastProgressMs := s.ports.nowMs } else s) .watchdog) := rfl

theorem exec_idle : exec .idle s =
    .next s := rfl

theorem exec_syncSkip : exec (.syncSkip b) s =
    .next s.consume := rfl

theorem exec_syncVbus : exec (.syncVbus b) s =
    .next { s.consume with header := Header.zero, writeIdx := 0, phase := .receive } := rfl

theorem exec_syncKw : exec (.syncKw b) s =
    .next (s.consume.startFrame b) := rfl

theorem exec_syncP300 : exec (.syncP300 b) s =
    .next (s.consume.startFrame b) := rfl

theorem exec_syncKm : exec (.syncKm b) s =
    .next (s.consume.startFrame b) := rfl

theorem exec_vrxMsb : exec (.vrxMsb b) s =
    .next (s.consume.raiseError .vbusMsb) := rfl

theorem exec_vrxHdrDiscard : exec (.vrxHdrDiscard b) s =
    s.storing b fun t => { t.decodeHeader with phase := .sync, writeIdx := 0 } := rfl

theorem exec_vrxHdrCrcerr : exec (.vrxHdrCrcerr b) s =
    s.storing b fun t => State.raiseError { t.decodeHeader with writeIdx := 11 } .vbusHdrCrc := rfl

theorem exec_vrxHdrOk : exec (.vrxHdrOk b) s =
    s.storing b fun t => { t.decodeHeader with writeIdx := 11 } := rfl

theorem exec_vrxStore : exec (.vrxStore b) s =
    s.storing b id := rfl

theorem exec_vrxEndOk : exec (.vrxEndOk b) s =
    if s.blocksInside then s.storing b fun t => { t with phase := .decode } else .fault .bufferIndex := rfl

theorem exec_vrxEndCrcerr : exec (.vrxEndCrcerr b) s =
    if s.blocksInside then s.storing b fun t => t.raiseError .vbusBlockCrc else .fault .bufferIndex := rfl

theorem exec_vrxOvf : exec (.vrxOvf b) s =
    .next ((s.consume.storeLast b).raiseError .overflow) := rfl

theorem exec_krxStore : exec (.krxStore b) s =
    s.storing b id := rfl

theorem exec_krxEndOk : exec (.krxEndOk b) s =
    s.storing b fun t => { t with phase := .decode } := rfl

theorem exec_krxEndErr : exec (.krxEndErr b) s =
    s.storing b fun t => t.raiseError .kwXor := rfl

theorem exec_krxOvf : exec (.krxOvf b) s =
    .next ((s.consume.storeLast b).raiseError .overflow) := rfl

theorem exec_prxStore : exec (.prxStore b) s =
    s.storing b id := rfl

theorem exec_prxEndOk : exec (.prxEndOk b) s =
    s.storing b fun t => { t with phase := .decode } := rfl

theorem exec_prxEndErr : exec (.prxEndErr b) s =
    s.storing b fun t => t.raiseError .p300Sum := rfl

theorem exec_prxOvf : exec (.prxOvf b) s =
    .next ((s.consume.storeLast b).raiseError .overflow) := rfl

theorem exec_mrxStore : exec (.mrxStore b) s =
    s.storing b id := rfl

theorem exec_mrxHdrOk : exec (.mrxHdrOk b) s =
    .next (s.consume.storeFourth b) := rfl

theorem exec_mrxHdrErr : exec (.mrxHdrErr b) s =
    .next ((s.consume.storeFourth b).raiseError .kmHeader) := rfl

theorem exec_mrxEndOk : exec (.mrxEndOk b) s =
    s.storing b fun t => { t with phase := .decode } := rfl

theorem exec_mrxEndErr : exec (.mrxEndErr b) s =
    s.storing b fun t => t.raiseError .kmStopOrCrc := rfl

theorem exec_mrxOvf : exec (.mrxOvf b) s =
    .next ((s.consume.storeLast b).raiseError .overflow) := rfl

theorem exec_decVbusDrop : exec .decVbusDrop s =
    .next s.enterDecode.leaveDecode := rfl

theorem exec_decVbusVitosolic : exec .decVbusVitosolic s =
    .next (s.decoding State.extractVitosolic) := rfl

theorem exec_decVbusBx : exec .decVbusBx s =
    .next (s.decoding State.extractBx) := rfl

theorem exec_decVbusMx : exec .decVbusMx s =
    .next (s.decoding State.extractMx) := rfl

theorem exec_decVbusGeneric : exec .decVbusGeneric s =
    .next (s.decoding State.extractGeneric) := rfl

theorem exec_decKw : exec .decKw s =
    .next (s.decoding fun t => t.kwpExtract 3) := rfl

theorem exec_decP300 : exec .decP300 s =
    .next (s.decoding fun t => t.kwpExtract 5) := rfl

theorem exec_decKmStatus : exec .decKmStatus s =
    .next (s.decoding State.kmExtract) := rfl

theorem exec_decKmOther : exec .decKmOther s =
    .next (s.decoding id) := rfl

end Sys2Proof.Machine
end

