-- ==== Sys2Proof/Laws/Extractors.lean ====
section
/-! SUPPORT. What each extractor leaves alone, the counts it sets, and that it keeps the buffer's form. -/

namespace Sys2Proof.Machine

/-! ### `State.extractVitosolic` -/

@[simp] theorem State.extractVitosolic_protocol (s : State) : s.extractVitosolic.protocol = s.protocol := by simp [State.extractVitosolic]
@[simp] theorem State.extractVitosolic_phase (s : State) : s.extractVitosolic.phase = s.phase := by simp [State.extractVitosolic]
@[simp] theorem State.extractVitosolic_writeIdx (s : State) : s.extractVitosolic.writeIdx = s.writeIdx := by simp [State.extractVitosolic]
@[simp] theorem State.extractVitosolic_lastProgressMs (s : State) : s.extractVitosolic.lastProgressMs = s.lastProgressMs := by simp [State.extractVitosolic]
@[simp] theorem State.extractVitosolic_header (s : State) : s.extractVitosolic.header = s.header := by simp [State.extractVitosolic]
@[simp] theorem State.extractVitosolic_ready (s : State) : s.extractVitosolic.ready = s.ready := by simp [State.extractVitosolic]
@[simp] theorem State.extractVitosolic_busOk (s : State) : s.extractVitosolic.busOk = s.busOk := by simp [State.extractVitosolic]
@[simp] theorem State.extractVitosolic_tempNum (s : State) : s.extractVitosolic.tempNum = 12 := rfl
@[simp] theorem State.extractVitosolic_pumpNum (s : State) : s.extractVitosolic.pumpNum = 7 := rfl
@[simp] theorem State.extractVitosolic_relayNum (s : State) : s.extractVitosolic.relayNum = 7 := rfl
@[simp] theorem State.extractVitosolic_heatQuantityWh (s : State) : s.extractVitosolic.heatQuantityWh = s.heatQuantityWh := by simp [State.extractVitosolic]
@[simp] theorem State.extractVitosolic_opHours (s : State) : s.extractVitosolic.opHours = s.opHours := by simp [State.extractVitosolic]
@[simp] theorem State.extractVitosolic_km (s : State) : s.extractVitosolic.km = s.km := by simp [State.extractVitosolic]
@[simp] theorem State.extractVitosolic_ports (s : State) : s.extractVitosolic.ports = s.ports := by simp [State.extractVitosolic]
@[simp] theorem State.extractVitosolic_wdogRearm (s : State) : s.extractVitosolic.wdogRearm = s.wdogRearm := by simp [State.extractVitosolic]
@[simp] theorem State.extractVitosolic_env (s : State) : s.extractVitosolic.env = s.env := by simp [State.extractVitosolic]
@[simp] theorem State.extractVitosolic_resets (s : State) : s.extractVitosolic.resets = s.resets := by simp [State.extractVitosolic]

theorem State.extractVitosolic_wf {s : State} (h : s.buf.wf = true) : s.extractVitosolic.buf.wf = true := by
  simp only [State.extractVitosolic, State.setCounts_buf]
  refine State.variantBlock_wf ?_ (by omega)
  refine State.maskAndTimeBlock_wf ?_ (by omega)
  refine State.pumps_wf ?_ (by omega)
  refine State.pumps_wf ?_ (by omega)
  refine State.temp2_wf ?_ (by omega)
  refine State.temp2_wf ?_ (by omega)
  refine State.temp2_wf ?_ (by omega)
  refine State.temp2_wf ?_ (by omega)
  refine State.temp2_wf ?_ (by omega)
  refine State.temp2_wf ?_ (by omega)
  exact h

/-! ### `State.extractBx` -/

@[simp] theorem State.extractBx_protocol (s : State) : s.extractBx.protocol = s.protocol := by simp [State.extractBx]
@[simp] theorem State.extractBx_phase (s : State) : s.extractBx.phase = s.phase := by simp [State.extractBx]
@[simp] theorem State.extractBx_writeIdx (s : State) : s.extractBx.writeIdx = s.writeIdx := by simp [State.extractBx]
@[simp] theorem State.extractBx_lastProgressMs (s : State) : s.extractBx.lastProgressMs = s.lastProgressMs := by simp [State.extractBx]
@[simp] theorem State.extractBx_header (s : State) : s.extractBx.header = s.header := by simp [State.extractBx]
@[simp] theorem State.extractBx_ready (s : State) : s.extractBx.ready = s.ready := by simp [State.extractBx]
@[simp] theorem State.extractBx_busOk (s : State) : s.extractBx.busOk = s.busOk := by simp [State.extractBx]
@[simp] theorem State.extractBx_tempNum (s : State) : s.extractBx.tempNum = 6 := rfl
@[simp] theorem State.extractBx_pumpNum (s : State) : s.extractBx.pumpNum = 2 := rfl
@[simp] theorem State.extractBx_relayNum (s : State) : s.extractBx.relayNum = 2 := rfl
@[simp] theorem State.extractBx_errorMask (s : State) : s.extractBx.errorMask = s.errorMask := by simp [State.extractBx]
@[simp] theorem State.extractBx_systemTimeMinutes (s : State) : s.extractBx.systemTimeMinutes = s.systemTimeMinutes := by simp [State.extractBx]
@[simp] theorem State.extractBx_systemVariant (s : State) : s.extractBx.systemVariant = s.systemVariant := by simp [State.extractBx]
@[simp] theorem State.extractBx_km (s : State) : s.extractBx.km = s.km := by simp [State.extractBx]
@[simp] theorem State.extractBx_ports (s : State) : s.extractBx.ports = s.ports := by simp [State.extractBx]
@[simp] theorem State.extractBx_wdogRearm (s : State) : s.extractBx.wdogRearm = s.wdogRearm := by simp [State.extractBx]
@[simp] theorem State.extractBx_env (s : State) : s.extractBx.env = s.env := by simp [State.extractBx]
@[simp] theorem State.extractBx_resets (s : State) : s.extractBx.resets = s.resets := by simp [State.extractBx]

theorem State.extractBx_wf {s : State} (h : s.buf.wf = true) : s.extractBx.buf.wf = true := by
  simp only [State.extractBx, State.setCounts_buf]
  refine State.heatBlock_wf ?_ (by omega)
  refine State.hoursBlock_wf ?_ (by omega)
  refine State.pumps_wf ?_ (by omega)
  refine State.temp2_wf ?_ (by omega)
  refine State.temp2_wf ?_ (by omega)
  refine State.temp2_wf ?_ (by omega)
  exact h

/-! ### `State.extractMx` -/

@[simp] theorem State.extractMx_protocol (s : State) : s.extractMx.protocol = s.protocol := by simp [State.extractMx]
@[simp] theorem State.extractMx_phase (s : State) : s.extractMx.phase = s.phase := by simp [State.extractMx]
@[simp] theorem State.extractMx_writeIdx (s : State) : s.extractMx.writeIdx = s.writeIdx := by simp [State.extractMx]
@[simp] theorem State.extractMx_lastProgressMs (s : State) : s.extractMx.lastProgressMs = s.lastProgressMs := by simp [State.extractMx]
@[simp] theorem State.extractMx_header (s : State) : s.extractMx.header = s.header := by simp [State.extractMx]
@[simp] theorem State.extractMx_ready (s : State) : s.extractMx.ready = s.ready := by simp [State.extractMx]
@[simp] theorem State.extractMx_busOk (s : State) : s.extractMx.busOk = s.busOk := by simp [State.extractMx]
@[simp] theorem State.extractMx_tempNum (s : State) : s.extractMx.tempNum = 4 := rfl
@[simp] theorem State.extractMx_pumpNum (s : State) : s.extractMx.pumpNum = 4 := rfl
@[simp] theorem State.extractMx_relayNum (s : State) : s.extractMx.relayNum = 4 := rfl
@[simp] theorem State.extractMx_systemTimeMinutes (s : State) : s.extractMx.systemTimeMinutes = s.systemTimeMinutes := by simp [State.extractMx]
@[simp] theorem State.extractMx_systemVariant (s : State) : s.extractMx.systemVariant = s.systemVariant := by simp [State.extractMx]
@[simp] theorem State.extractMx_km (s : State) : s.extractMx.km = s.km := by simp [State.extractMx]
@[simp] theorem State.extractMx_ports (s : State) : s.extractMx.ports = s.ports := by simp [State.extractMx]
@[simp] theorem State.extractMx_wdogRearm (s : State) : s.extractMx.wdogRearm = s.wdogRearm := by simp [State.extractMx]
@[simp] theorem State.extractMx_env (s : State) : s.extractMx.env = s.env := by simp [State.extractMx]
@[simp] theorem State.extractMx_resets (s : State) : s.extractMx.resets = s.resets := by simp [State.extractMx]

theorem State.extractMx_wf {s : State} (h : s.buf.wf = true) : s.extractMx.buf.wf = true := by
  simp only [State.extractMx, State.setCounts_buf]
  refine State.maskBlock_wf ?_ (by omega)
  refine State.heatBlock_wf ?_ (by omega)
  refine State.hoursBlock_wf ?_ (by omega)
  refine State.pumps_wf ?_ (by omega)
  refine State.temp2_wf ?_ (by omega)
  refine State.temp2_wf ?_ (by omega)
  exact h

/-! ### `State.extractGeneric` -/

@[simp] theorem State.extractGeneric_protocol (s : State) : s.extractGeneric.protocol = s.protocol := by simp [State.extractGeneric]
@[simp] theorem State.extractGeneric_phase (s : State) : s.extractGeneric.phase = s.phase := by simp [State.extractGeneric]
@[simp] theorem State.extractGeneric_writeIdx (s : State) : s.extractGeneric.writeIdx = s.writeIdx := by simp [State.extractGeneric]
@[simp] theorem State.extractGeneric_lastProgressMs (s : State) : s.extractGeneric.lastProgressMs = s.lastProgressMs := by simp [State.extractGeneric]
@[simp] theorem State.extractGeneric_header (s : State) : s.extractGeneric.header = s.header := by simp [State.extractGeneric]
@[simp] theorem State.extractGeneric_ready (s : State) : s.extractGeneric.ready = s.ready := by simp [State.extractGeneric]
@[simp] theorem State.extractGeneric_busOk (s : State) : s.extractGeneric.busOk = s.busOk := by simp [State.extractGeneric]
@[simp] theorem State.extractGeneric_pump (s : State) : s.extractGeneric.pump = s.pump := by simp [State.extractGeneric]
@[simp] theorem State.extractGeneric_relay (s : State) : s.extractGeneric.relay = s.relay := by simp [State.extractGeneric]
@[simp] theorem State.extractGeneric_tempNum (s : State) : s.extractGeneric.tempNum = 4 := rfl
@[simp] theorem State.extractGeneric_pumpNum (s : State) : s.extractGeneric.pumpNum = 0 := rfl
@[simp] theorem State.extractGeneric_relayNum (s : State) : s.extractGeneric.relayNum = 0 := rfl
@[simp] theorem State.extractGeneric_errorMask (s : State) : s.extractGeneric.errorMask = s.errorMask := by simp [State.extractGeneric]
@[simp] theorem State.extractGeneric_systemTimeMinutes (s : State) : s.extractGeneric.systemTimeMinutes = s.systemTimeMinutes := by simp [State.extractGeneric]
@[simp] theorem State.extractGeneric_heatQuantityWh (s : State) : s.extractGeneric.heatQuantityWh = s.heatQuantityWh := by simp [State.extractGeneric]
@[simp] theorem State.extractGeneric_systemVariant (s : State) : s.extractGeneric.systemVariant = s.systemVariant := by simp [State.extractGeneric]
@[simp] theorem State.extractGeneric_opHours (s : State) : s.extractGeneric.opHours = s.opHours := by simp [State.extractGeneric]
@[simp] theorem State.extractGeneric_km (s : State) : s.extractGeneric.km = s.km := by simp [State.extractGeneric]
@[simp] theorem State.extractGeneric_ports (s : State) : s.extractGeneric.ports = s.ports := by simp [State.extractGeneric]
@[simp] theorem State.extractGeneric_wdogRearm (s : State) : s.extractGeneric.wdogRearm = s.wdogRearm := by simp [State.extractGeneric]
@[simp] theorem State.extractGeneric_env (s : State) : s.extractGeneric.env = s.env := by simp [State.extractGeneric]
@[simp] theorem State.extractGeneric_resets (s : State) : s.extractGeneric.resets = s.resets := by simp [State.extractGeneric]

theorem State.extractGeneric_wf {s : State} (h : s.buf.wf = true) : s.extractGeneric.buf.wf = true := by
  simp only [State.extractGeneric, State.setCounts_buf]
  refine State.temp2_wf ?_ (by omega)
  refine State.temp2_wf ?_ (by omega)
  exact h

/-! ### KW, P300 and KM -/

@[simp] theorem State.kwpExtract_protocol (s : State) (start : Nat) : (s.kwpExtract start).protocol = s.protocol := by simp [State.kwpExtract]
@[simp] theorem State.kwpExtract_phase (s : State) (start : Nat) : (s.kwpExtract start).phase = s.phase := by simp [State.kwpExtract]
@[simp] theorem State.kwpExtract_writeIdx (s : State) (start : Nat) : (s.kwpExtract start).writeIdx = s.writeIdx := by simp [State.kwpExtract]
@[simp] theorem State.kwpExtract_lastProgressMs (s : State) (start : Nat) : (s.kwpExtract start).lastProgressMs = s.lastProgressMs := by simp [State.kwpExtract]
@[simp] theorem State.kwpExtract_buf (s : State) (start : Nat) : (s.kwpExtract start).buf = s.buf := by simp [State.kwpExtract]
@[simp] theorem State.kwpExtract_header (s : State) (start : Nat) : (s.kwpExtract start).header = s.header := by simp [State.kwpExtract]
@[simp] theorem State.kwpExtract_ready (s : State) (start : Nat) : (s.kwpExtract start).ready = s.ready := by simp [State.kwpExtract]
@[simp] theorem State.kwpExtract_busOk (s : State) (start : Nat) : (s.kwpExtract start).busOk = s.busOk := by simp [State.kwpExtract]
@[simp] theorem State.kwpExtract_errorMask (s : State) (start : Nat) : (s.kwpExtract start).errorMask = s.errorMask := by simp [State.kwpExtract]
@[simp] theorem State.kwpExtract_systemTimeMinutes (s : State) (start : Nat) : (s.kwpExtract start).systemTimeMinutes = s.systemTimeMinutes := by simp [State.kwpExtract]
@[simp] theorem State.kwpExtract_heatQuantityWh (s : State) (start : Nat) : (s.kwpExtract start).heatQuantityWh = s.heatQuantityWh := by simp [State.kwpExtract]
@[simp] theorem State.kwpExtract_systemVariant (s : State) (start : Nat) : (s.kwpExtract start).systemVariant = s.systemVariant := by simp [State.kwpExtract]
@[simp] theorem State.kwpExtract_opHours (s : State) (start : Nat) : (s.kwpExtract start).opHours = s.opHours := by simp [State.kwpExtract]
@[simp] theorem State.kwpExtract_km (s : State) (start : Nat) : (s.kwpExtract start).km = s.km := by simp [State.kwpExtract]
@[simp] theorem State.kwpExtract_ports (s : State) (start : Nat) : (s.kwpExtract start).ports = s.ports := by simp [State.kwpExtract]
@[simp] theorem State.kwpExtract_wdogRearm (s : State) (start : Nat) : (s.kwpExtract start).wdogRearm = s.wdogRearm := by simp [State.kwpExtract]
@[simp] theorem State.kwpExtract_env (s : State) (start : Nat) : (s.kwpExtract start).env = s.env := by simp [State.kwpExtract]
@[simp] theorem State.kwpExtract_resets (s : State) (start : Nat) : (s.kwpExtract start).resets = s.resets := by simp [State.kwpExtract]
@[simp] theorem State.kmExtract_protocol (s : State) : s.kmExtract.protocol = s.protocol := by simp [State.kmExtract, State.kmMirror]
@[simp] theorem State.kmExtract_phase (s : State) : s.kmExtract.phase = s.phase := by simp [State.kmExtract, State.kmMirror]
@[simp] theorem State.kmExtract_writeIdx (s : State) : s.kmExtract.writeIdx = s.writeIdx := by simp [State.kmExtract, State.kmMirror]
@[simp] theorem State.kmExtract_lastProgressMs (s : State) : s.kmExtract.lastProgressMs = s.lastProgressMs := by simp [State.kmExtract, State.kmMirror]
@[simp] theorem State.kmExtract_buf (s : State) : s.kmExtract.buf = s.buf := by simp [State.kmExtract, State.kmMirror]
@[simp] theorem State.kmExtract_header (s : State) : s.kmExtract.header = s.header := by simp [State.kmExtract, State.kmMirror]
@[simp] theorem State.kmExtract_ready (s : State) : s.kmExtract.ready = s.ready := by simp [State.kmExtract, State.kmMirror]
@[simp] theorem State.kmExtract_busOk (s : State) : s.kmExtract.busOk = s.busOk := by simp [State.kmExtract, State.kmMirror]
@[simp] theorem State.kmExtract_errorMask (s : State) : s.kmExtract.errorMask = s.errorMask := by simp [State.kmExtract, State.kmMirror]
@[simp] theorem State.kmExtract_systemTimeMinutes (s : State) : s.kmExtract.systemTimeMinutes = s.systemTimeMinutes := by simp [State.kmExtract, State.kmMirror]
@[simp] theorem State.kmExtract_heatQuantityWh (s : State) : s.kmExtract.heatQuantityWh = s.heatQuantityWh := by simp [State.kmExtract, State.kmMirror]
@[simp] theorem State.kmExtract_systemVariant (s : State) : s.kmExtract.systemVariant = s.systemVariant := by simp [State.kmExtract, State.kmMirror]
@[simp] theorem State.kmExtract_opHours (s : State) : s.kmExtract.opHours = s.opHours := by simp [State.kmExtract, State.kmMirror]
@[simp] theorem State.kmExtract_ports (s : State) : s.kmExtract.ports = s.ports := by simp [State.kmExtract, State.kmMirror]
@[simp] theorem State.kmExtract_wdogRearm (s : State) : s.kmExtract.wdogRearm = s.wdogRearm := by simp [State.kmExtract, State.kmMirror]
@[simp] theorem State.kmExtract_env (s : State) : s.kmExtract.env = s.env := by simp [State.kmExtract, State.kmMirror]
@[simp] theorem State.kmExtract_resets (s : State) : s.kmExtract.resets = s.resets := by simp [State.kmExtract, State.kmMirror]

end Sys2Proof.Machine
end

