-- ==== Sys2Proof/Laws/Select.lean ====
section
/-! SUPPORT. Selection: the seven situations of a step (30_encoding.md R72), what is selected in each, and what the
frame context's fields mean. -/

namespace Sys2Proof.Machine

variable {s : State} {b : Byte}

/-- The lines of R72, as situations: every state is in exactly one of them. -/
theorem State.situation (s : State) :
    s.ports.rst = true ∨ (s.ports.rst = false ∧ s.phase = .error) ∨ (s.ports.rst = false ∧ s.phase = .decode) ∨
      (s.listens ∧ s.wdogDue = true) ∨ (s.listens ∧ s.wdogDue = false ∧ s.ports.rxPending = []) ∨
      (∃ b, s.presents .sync b) ∨ (∃ b, s.presents .receive b) := by
  unfold State.listens State.presents
  cases s.ports.rst <;> cases s.phase <;> cases s.wdogDue <;> cases s.ports.rxPending <;> simp

theorem State.selected_of_rst (h : s.ports.rst = true) : s.selected = .reset := by
  simp [State.selected, select, State.selector, h]

theorem State.selected_of_error (h : s.ports.rst = false) (hp : s.phase = .error) : s.selected = .err := by
  simp [State.selected, select, State.selector, h, hp]

theorem State.selected_of_decode (h : s.ports.rst = false) (hp : s.phase = .decode) :
    s.selected = selectDecode s.protocol s.frameContext := by
  simp [State.selected, select, State.selector, h, hp]

theorem State.selected_of_wdogDue (h : s.listens) (hw : s.wdogDue = true) : s.selected = .wdog := by
  obtain ⟨h, hp | hp⟩ := h <;> simp [State.selected, select, State.selector, h, hp, hw]

theorem State.selected_of_quiet (h : s.listens) (hw : s.wdogDue = false) (hr : s.ports.rxPending = []) :
    s.selected = .idle := by
  obtain ⟨h, hp | hp⟩ := h <;> simp [State.selected, select, State.selector, h, hp, hw, State.rxValid, hr]

theorem State.rxValid_of_head (h : s.ports.rxPending.head? = some b) : s.rxValid = true := by
  rw [State.rxValid_iff]; intro h'; simp [h'] at h

theorem State.selected_of_sync (h : s.presents .sync b) : s.selected = selectSync s.protocol b := by
  obtain ⟨h, hp, hw, hb⟩ := h
  simp [State.selected, select, State.selector, h, hp, hw, State.rxValid_of_head hb, State.rxData_of_head hb]

theorem State.selected_of_receive (h : s.presents .receive b) :
    s.selected = selectReceive s.protocol s.nextLen b s.frameContext := by
  obtain ⟨h, hp, hw, hb⟩ := h
  simp [State.selected, select, State.selector, h, hp, hw, State.rxValid_of_head hb, State.rxData_of_head hb]

theorem versionNibble_eq_one : ∀ v : Byte, ((v >>> 4).setWidth 4 == (1 : BitVec 4)) = true ↔ v >>> 4 = 1 := by
  intro v
  rw [beq_iff_eq]
  constructor
  · intro h
    apply BitVec.eq_of_toNat_eq
    have h' := congrArg BitVec.toNat h
    have := v.isLt
    have h4 : (1 : BitVec 4).toNat = 1 := rfl
    have h8 : (1 : Byte).toNat = 1 := rfl
    simp only [BitVec.toNat_setWidth, BitVec.toNat_ushiftRight, Nat.shiftRight_eq_div_pow, h4, h8] at *
    omega
  · intro h; rw [h]; rfl

/-- The condition of a status record (R215), as the selector computes it. -/
theorem State.kmStatusRecord_iff (s : State) : s.kmStatusRecord = true ↔ s.isStatusRecord := by
  simp [State.kmStatusRecord, State.isStatusRecord]

/-- What the fields of the frame context say of the buffer, with the octet `b` presented. -/
structure ContextFacts (s : State) (b : Byte) : Prop where
  vbusComplete : s.protocol = .vbus →
    (s.frameContext.complete = true ↔ 11 < s.nextLen ∧ s.nextLen + 1 = s.header.frameLen.toNat)
  vbusIntact : s.protocol = .vbus →
    (s.frameContext.intact = true ↔ ∀ k < s.header.frameCnt.toNat, calcCrc s.seen (9 + 6 * k) 6 = 0)
  versionOk : s.frameContext.versionOk = true ↔ s.seen 4 >>> 4 = 1
  headerCrcOk : s.frameContext.headerCrcOk = true ↔ calcCrc s.seen 0 9 = 0
  kwpComplete : s.protocol = .kw ∨ s.protocol = .p300 →
    (s.frameContext.complete = true ↔ 2 ≤ s.nextLen ∧ s.nextLen = (s.seen 1).toNat + 3)
  kwIntact : s.protocol = .kw → (s.frameContext.intact = true ↔ xorRange s.seen 0 (s.nextLen - 1) = b)
  p300Intact : s.protocol = .p300 → (s.frameContext.intact = true ↔ sum8Range s.seen 0 (s.nextLen - 1) = b)
  kmComplete : s.protocol = .km →
    (s.frameContext.complete = true ↔ 4 < s.nextLen ∧ s.nextLen = (s.seen 1).toNat + 7)
  kmIntact : s.protocol = .km → 3 ≤ s.nextLen → (s.frameContext.intact = true ↔ s.kmGood b)
  kmHeaderOk : s.frameContext.kmHeaderOk = true ↔ b = 0x68 ∧ s.seen 1 = s.seen 2

theorem State.contextFacts {p : Phase} (h : s.presents p b) : ContextFacts s b := by
  have hd := State.rxData_of_head h.2.2.2
  constructor
  · intro hp; simp [State.frameContext, State.frameComplete, hp]
  · intro hp; simp [State.frameContext, State.frameIntact, hp, blocksOk_iff]
  · exact versionNibble_eq_one _
  · simp [State.frameContext]
  · rintro (hp | hp) <;> simp [State.frameContext, State.frameComplete, hp]
  · intro hp; simp [State.frameContext, State.frameIntact, hp, Machine.kwIntact, hd]
  · intro hp; simp [State.frameContext, State.frameIntact, hp, Machine.p300Intact, hd]
  · intro hp; simp [State.frameContext, State.frameComplete, hp]
  · intro hp h3
    have hi : s.nextLen - 3 + 1 = s.nextLen - 2 := by omega
    simp [State.frameContext, State.frameIntact, hp, Machine.kmIntact, hd, State.kmGood, le16, hi]
  · simp [State.frameContext, hd]

end Sys2Proof.Machine
end

