-- ==== Sys2Proof/Laws/Effects.lean ====
section
/-! SUPPORT. What one operation can do, said once for all forty: its effect on each state element outside the
snapshot's values, and what it leaves alone. -/

namespace Sys2Proof.Machine

/-- The operations that append an octet and stay in RECEIVE. -/
def staysInReceive : Instr → Bool
  | .vrxStore _ | .vrxHdrOk _ | .krxStore _ | .prxStore _ | .mrxStore _ | .mrxHdrOk _ => true
  | _ => false

/-- The effect of operation `i` from `s` to `t`. -/
structure Effect (i : Instr) (s t : State) : Prop where
  phase : t.phase = if staysInReceive i then s.phase else phaseAfter i s.phase
  protocol : t.protocol = if i = .reset then Protocol.ofCode s.ports.cfgProtocol else s.protocol
  lastProgress : t.lastProgressMs =
    if i = .reset ∨ i.isDecode = true ∨ (i = .wdog ∧ s.wdogRearm = true) then s.ports.nowMs else s.lastProgressMs
  ready : t.ready =
    if i = .reset ∨ i = .err then false else if i.isDecode = true ∧ i ≠ .decVbusDrop then true else s.ready
  busOk : t.busOk = if i = .err then false else if i = .reset ∨ i.isDecode = true then true else s.busOk
  ports : t.ports =
    if i.eventOctet.isSome then { s.ports with rxPending := s.ports.rxPending.tail } else s.ports
  snapshot : i ≠ .reset → i.isDecode = false → SameSnapshot s t
  km : i ≠ .reset → i ≠ .decKmStatus → t.km = s.km
  vbusOnly : i ∈ [Instr.decKw, .decP300, .decKmStatus, .decKmOther] →
    t.header = s.header ∧ t.errorMask = s.errorMask ∧ t.systemTimeMinutes = s.systemTimeMinutes ∧
      t.heatQuantityWh = s.heatQuantityWh ∧ t.systemVariant = s.systemVariant ∧ t.opHours = s.opHours
  header : t.header =
    match i with
    | .reset | .syncVbus _ => Header.zero
    | .vrxHdrDiscard b | .vrxHdrCrcerr b | .vrxHdrOk b => headerOf (s.storeOctet b).octet
    | _ => s.header
  model : t.wdogRearm = s.wdogRearm ∧ t.env = s.env ∧ t.resets = if i = .reset then s.resets + 1 else s.resets
  bufWf : s.buf.wf = true → t.buf.wf = true

variable {s t : State} {b : Byte}

theorem next_of_guard {p : Prop} [Decidable p] {x : Result}
    (h : (if p then x else .fault .bufferIndex) = Host.Outcome.next t) : x = .next t := by
  split at h
  · exact h
  · cases h

theorem State.storeOctet_wf (h : s.buf.wf = true) (hlt : s.writeIdx.toNat < 255) :
    (s.consume.storeOctet b).buf.wf = true :=
  FrameBuffer.wf_write h hlt

theorem Effect.of_err (h : exec .err s = .next t) : Effect .err s t := by
  rw [exec_err] at h
  obtain rfl := Host.Outcome.next.inj h
  constructor <;> try simp [staysInReceive, phaseAfter, Instr.isDecode, Instr.number, Instr.eventOctet, SameSnapshot]

theorem Effect.of_idle (h : exec .idle s = .next t) : Effect .idle s t := by
  rw [exec_idle] at h
  obtain rfl := Host.Outcome.next.inj h
  constructor <;> try simp [staysInReceive, phaseAfter, Instr.isDecode, Instr.number, Instr.eventOctet, SameSnapshot]

theorem Effect.of_reset (h : exec .reset s = .next t) : Effect .reset s t := by
  rw [exec_reset] at h
  obtain rfl := Host.Outcome.next.inj h
  constructor <;>
    simp [staysInReceive, phaseAfter, Instr.isDecode, Instr.number, Instr.eventOctet, State.afterReset, FrameBuffer.wf,
      FrameBuffer.sortedFrom]

theorem Effect.of_wdog (h : exec .wdog s = .next t) : Effect .wdog s t := by
  rw [exec_wdog] at h
  obtain rfl := Host.Outcome.next.inj h
  cases hw : s.wdogRearm <;> constructor <;>
    simp [hw, staysInReceive, phaseAfter, Instr.isDecode, Instr.number, Instr.eventOctet, SameSnapshot]

theorem Effect.of_syncSkip (h : exec (.syncSkip b) s = .next t) : Effect (.syncSkip b) s t := by
  rw [exec_syncSkip] at h
  obtain rfl := Host.Outcome.next.inj h
  constructor <;> try simp [staysInReceive, phaseAfter, Instr.isDecode, Instr.number, Instr.eventOctet, SameSnapshot]

theorem Effect.of_syncVbus (h : exec (.syncVbus b) s = .next t) : Effect (.syncVbus b) s t := by
  rw [exec_syncVbus] at h
  obtain rfl := Host.Outcome.next.inj h
  constructor <;> try simp [staysInReceive, phaseAfter, Instr.isDecode, Instr.number, Instr.eventOctet, SameSnapshot]

theorem Effect.of_vrxMsb (h : exec (.vrxMsb b) s = .next t) : Effect (.vrxMsb b) s t := by
  rw [exec_vrxMsb] at h
  obtain rfl := Host.Outcome.next.inj h
  constructor <;> try simp [staysInReceive, phaseAfter, Instr.isDecode, Instr.number, Instr.eventOctet, SameSnapshot]

theorem Effect.of_syncKw (h : exec (.syncKw b) s = .next t) : Effect (.syncKw b) s t := by
  rw [exec_syncKw] at h
  obtain rfl := Host.Outcome.next.inj h
  constructor <;> try simp [staysInReceive, phaseAfter, Instr.isDecode, Instr.number, Instr.eventOctet, SameSnapshot]
  exact fun h => FrameBuffer.wf_write h (by decide)

theorem Effect.of_syncP300 (h : exec (.syncP300 b) s = .next t) : Effect (.syncP300 b) s t := by
  rw [exec_syncP300] at h
  obtain rfl := Host.Outcome.next.inj h
  constructor <;> try simp [staysInReceive, phaseAfter, Instr.isDecode, Instr.number, Instr.eventOctet, SameSnapshot]
  exact fun h => FrameBuffer.wf_write h (by decide)

theorem Effect.of_syncKm (h : exec (.syncKm b) s = .next t) : Effect (.syncKm b) s t := by
  rw [exec_syncKm] at h
  obtain rfl := Host.Outcome.next.inj h
  constructor <;> try simp [staysInReceive, phaseAfter, Instr.isDecode, Instr.number, Instr.eventOctet, SameSnapshot]
  exact fun h => FrameBuffer.wf_write h (by decide)

theorem Effect.of_vrxOvf (h : exec (.vrxOvf b) s = .next t) : Effect (.vrxOvf b) s t := by
  rw [exec_vrxOvf] at h
  obtain rfl := Host.Outcome.next.inj h
  constructor <;> try simp [staysInReceive, phaseAfter, Instr.isDecode, Instr.number, Instr.eventOctet, SameSnapshot]
  exact fun h => FrameBuffer.wf_write h (by decide)

theorem Effect.of_krxOvf (h : exec (.krxOvf b) s = .next t) : Effect (.krxOvf b) s t := by
  rw [exec_krxOvf] at h
  obtain rfl := Host.Outcome.next.inj h
  constructor <;> try simp [staysInReceive, phaseAfter, Instr.isDecode, Instr.number, Instr.eventOctet, SameSnapshot]
  exact fun h => FrameBuffer.wf_write h (by decide)

theorem Effect.of_prxOvf (h : exec (.prxOvf b) s = .next t) : Effect (.prxOvf b) s t := by
  rw [exec_prxOvf] at h
  obtain rfl := Host.Outcome.next.inj h
  constructor <;> try simp [staysInReceive, phaseAfter, Instr.isDecode, Instr.number, Instr.eventOctet, SameSnapshot]
  exact fun h => FrameBuffer.wf_write h (by decide)

theorem Effect.of_mrxOvf (h : exec (.mrxOvf b) s = .next t) : Effect (.mrxOvf b) s t := by
  rw [exec_mrxOvf] at h
  obtain rfl := Host.Outcome.next.inj h
  constructor <;> try simp [staysInReceive, phaseAfter, Instr.isDecode, Instr.number, Instr.eventOctet, SameSnapshot]
  exact fun h => FrameBuffer.wf_write h (by decide)

theorem Effect.of_mrxHdrOk (h : exec (.mrxHdrOk b) s = .next t) : Effect (.mrxHdrOk b) s t := by
  rw [exec_mrxHdrOk] at h
  obtain rfl := Host.Outcome.next.inj h
  constructor <;> try simp [staysInReceive, Instr.isDecode, Instr.number, Instr.eventOctet, SameSnapshot]
  exact fun h => FrameBuffer.wf_write h (by decide)

theorem Effect.of_mrxHdrErr (h : exec (.mrxHdrErr b) s = .next t) : Effect (.mrxHdrErr b) s t := by
  rw [exec_mrxHdrErr] at h
  obtain rfl := Host.Outcome.next.inj h
  constructor <;> try simp [staysInReceive, phaseAfter, Instr.isDecode, Instr.number, Instr.eventOctet, SameSnapshot]
  exact fun h => FrameBuffer.wf_write h (by decide)

theorem Effect.of_vrxStore (h : exec (.vrxStore b) s = .next t) : Effect (.vrxStore b) s t := by
  rw [exec_vrxStore] at h
  obtain ⟨hlt, rfl⟩ := State.storing_eq_next.1 h
  constructor <;> try simp [staysInReceive, Instr.isDecode, Instr.number, Instr.eventOctet, SameSnapshot]
  exact fun h => State.storeOctet_wf h hlt

theorem Effect.of_krxStore (h : exec (.krxStore b) s = .next t) : Effect (.krxStore b) s t := by
  rw [exec_krxStore] at h
  obtain ⟨hlt, rfl⟩ := State.storing_eq_next.1 h
  constructor <;> try simp [staysInReceive, Instr.isDecode, Instr.number, Instr.eventOctet, SameSnapshot]
  exact fun h => State.storeOctet_wf h hlt

theorem Effect.of_prxStore (h : exec (.prxStore b) s = .next t) : Effect (.prxStore b) s t := by
  rw [exec_prxStore] at h
  obtain ⟨hlt, rfl⟩ := State.storing_eq_next.1 h
  constructor <;> try simp [staysInReceive, Instr.isDecode, Instr.number, Instr.eventOctet, SameSnapshot]
  exact fun h => State.storeOctet_wf h hlt

theorem Effect.of_mrxStore (h : exec (.mrxStore b) s = .next t) : Effect (.mrxStore b) s t := by
  rw [exec_mrxStore] at h
  obtain ⟨hlt, rfl⟩ := State.storing_eq_next.1 h
  constructor <;> try simp [staysInReceive, Instr.isDecode, Instr.number, Instr.eventOctet, SameSnapshot]
  exact fun h => State.storeOctet_wf h hlt

theorem Effect.of_krxEndOk (h : exec (.krxEndOk b) s = .next t) : Effect (.krxEndOk b) s t := by
  rw [exec_krxEndOk] at h
  obtain ⟨hlt, rfl⟩ := State.storing_eq_next.1 h
  constructor <;> try simp [staysInReceive, phaseAfter, Instr.isDecode, Instr.number, Instr.eventOctet, SameSnapshot]
  exact fun h => State.storeOctet_wf h hlt

theorem Effect.of_prxEndOk (h : exec (.prxEndOk b) s = .next t) : Effect (.prxEndOk b) s t := by
  rw [exec_prxEndOk] at h
  obtain ⟨hlt, rfl⟩ := State.storing_eq_next.1 h
  constructor <;> try simp [staysInReceive, phaseAfter, Instr.isDecode, Instr.number, Instr.eventOctet, SameSnapshot]
  exact fun h => State.storeOctet_wf h hlt

theorem Effect.of_mrxEndOk (h : exec (.mrxEndOk b) s = .next t) : Effect (.mrxEndOk b) s t := by
  rw [exec_mrxEndOk] at h
  obtain ⟨hlt, rfl⟩ := State.storing_eq_next.1 h
  constructor <;> try simp [staysInReceive, phaseAfter, Instr.isDecode, Instr.number, Instr.eventOctet, SameSnapshot]
  exact fun h => State.storeOctet_wf h hlt

theorem Effect.of_krxEndErr (h : exec (.krxEndErr b) s = .next t) : Effect (.krxEndErr b) s t := by
  rw [exec_krxEndErr] at h
  obtain ⟨hlt, rfl⟩ := State.storing_eq_next.1 h
  constructor <;> try simp [staysInReceive, phaseAfter, Instr.isDecode, Instr.number, Instr.eventOctet, SameSnapshot]
  exact fun h => State.storeOctet_wf h hlt

theorem Effect.of_prxEndErr (h : exec (.prxEndErr b) s = .next t) : Effect (.prxEndErr b) s t := by
  rw [exec_prxEndErr] at h
  obtain ⟨hlt, rfl⟩ := State.storing_eq_next.1 h
  constructor <;> try simp [staysInReceive, phaseAfter, Instr.isDecode, Instr.number, Instr.eventOctet, SameSnapshot]
  exact fun h => State.storeOctet_wf h hlt

theorem Effect.of_mrxEndErr (h : exec (.mrxEndErr b) s = .next t) : Effect (.mrxEndErr b) s t := by
  rw [exec_mrxEndErr] at h
  obtain ⟨hlt, rfl⟩ := State.storing_eq_next.1 h
  constructor <;> try simp [staysInReceive, phaseAfter, Instr.isDecode, Instr.number, Instr.eventOctet, SameSnapshot]
  exact fun h => State.storeOctet_wf h hlt

theorem Effect.of_vrxHdrDiscard (h : exec (.vrxHdrDiscard b) s = .next t) : Effect (.vrxHdrDiscard b) s t := by
  rw [exec_vrxHdrDiscard] at h
  obtain ⟨hlt, rfl⟩ := State.storing_eq_next.1 h
  constructor <;> try simp [staysInReceive, phaseAfter, Instr.isDecode, Instr.number, Instr.eventOctet, SameSnapshot]
  · rfl
  · exact fun h => State.storeOctet_wf h hlt

theorem Effect.of_vrxHdrCrcerr (h : exec (.vrxHdrCrcerr b) s = .next t) : Effect (.vrxHdrCrcerr b) s t := by
  rw [exec_vrxHdrCrcerr] at h
  obtain ⟨hlt, rfl⟩ := State.storing_eq_next.1 h
  constructor <;> try simp [staysInReceive, phaseAfter, Instr.isDecode, Instr.number, Instr.eventOctet, SameSnapshot]
  · rfl
  · exact fun h => State.storeOctet_wf h hlt

theorem Effect.of_vrxHdrOk (h : exec (.vrxHdrOk b) s = .next t) : Effect (.vrxHdrOk b) s t := by
  rw [exec_vrxHdrOk] at h
  obtain ⟨hlt, rfl⟩ := State.storing_eq_next.1 h
  constructor <;> try simp [staysInReceive, Instr.isDecode, Instr.number, Instr.eventOctet, SameSnapshot]
  · rfl
  · exact fun h => State.storeOctet_wf h hlt

theorem Effect.of_vrxEndOk (h : exec (.vrxEndOk b) s = .next t) : Effect (.vrxEndOk b) s t := by
  rw [exec_vrxEndOk] at h
  obtain ⟨hlt, rfl⟩ := State.storing_eq_next.1 (next_of_guard h)
  constructor <;> try simp [staysInReceive, phaseAfter, Instr.isDecode, Instr.number, Instr.eventOctet, SameSnapshot]
  exact fun h => State.storeOctet_wf h hlt

theorem Effect.of_vrxEndCrcerr (h : exec (.vrxEndCrcerr b) s = .next t) : Effect (.vrxEndCrcerr b) s t := by
  rw [exec_vrxEndCrcerr] at h
  obtain ⟨hlt, rfl⟩ := State.storing_eq_next.1 (next_of_guard h)
  constructor <;> try simp [staysInReceive, phaseAfter, Instr.isDecode, Instr.number, Instr.eventOctet, SameSnapshot]
  exact fun h => State.storeOctet_wf h hlt

theorem Effect.of_decVbusDrop (h : exec .decVbusDrop s = .next t) : Effect .decVbusDrop s t := by
  rw [exec_decVbusDrop] at h
  obtain rfl := Host.Outcome.next.inj h
  constructor <;> try simp [staysInReceive, phaseAfter, Instr.isDecode, Instr.number, Instr.eventOctet, SameSnapshot]

theorem Effect.of_decKw (h : exec .decKw s = .next t) : Effect .decKw s t := by
  rw [exec_decKw] at h
  obtain rfl := Host.Outcome.next.inj h
  constructor <;> try simp [staysInReceive, phaseAfter, Instr.isDecode, Instr.number, Instr.eventOctet, SameSnapshot]

theorem Effect.of_decP300 (h : exec .decP300 s = .next t) : Effect .decP300 s t := by
  rw [exec_decP300] at h
  obtain rfl := Host.Outcome.next.inj h
  constructor <;> try simp [staysInReceive, phaseAfter, Instr.isDecode, Instr.number, Instr.eventOctet, SameSnapshot]

theorem Effect.of_decKmStatus (h : exec .decKmStatus s = .next t) : Effect .decKmStatus s t := by
  rw [exec_decKmStatus] at h
  obtain rfl := Host.Outcome.next.inj h
  constructor <;> try simp [staysInReceive, phaseAfter, Instr.isDecode, Instr.number, Instr.eventOctet, SameSnapshot]

theorem Effect.of_decKmOther (h : exec .decKmOther s = .next t) : Effect .decKmOther s t := by
  rw [exec_decKmOther] at h
  obtain rfl := Host.Outcome.next.inj h
  constructor <;> try simp [staysInReceive, phaseAfter, Instr.isDecode, Instr.number, Instr.eventOctet, SameSnapshot]

theorem Effect.of_decVbusVitosolic (h : exec .decVbusVitosolic s = .next t) : Effect .decVbusVitosolic s t := by
  rw [exec_decVbusVitosolic] at h
  obtain rfl := Host.Outcome.next.inj h
  constructor <;> try simp [staysInReceive, phaseAfter, Instr.isDecode, Instr.number, Instr.eventOctet, SameSnapshot]
  exact fun h => State.extractVitosolic_wf (s := s.enterDecode) h

theorem Effect.of_decVbusBx (h : exec .decVbusBx s = .next t) : Effect .decVbusBx s t := by
  rw [exec_decVbusBx] at h
  obtain rfl := Host.Outcome.next.inj h
  constructor <;> try simp [staysInReceive, phaseAfter, Instr.isDecode, Instr.number, Instr.eventOctet, SameSnapshot]
  exact fun h => State.extractBx_wf (s := s.enterDecode) h

theorem Effect.of_decVbusMx (h : exec .decVbusMx s = .next t) : Effect .decVbusMx s t := by
  rw [exec_decVbusMx] at h
  obtain rfl := Host.Outcome.next.inj h
  constructor <;> try simp [staysInReceive, phaseAfter, Instr.isDecode, Instr.number, Instr.eventOctet, SameSnapshot]
  exact fun h => State.extractMx_wf (s := s.enterDecode) h

theorem Effect.of_decVbusGeneric (h : exec .decVbusGeneric s = .next t) : Effect .decVbusGeneric s t := by
  rw [exec_decVbusGeneric] at h
  obtain rfl := Host.Outcome.next.inj h
  constructor <;> try simp [staysInReceive, phaseAfter, Instr.isDecode, Instr.number, Instr.eventOctet, SameSnapshot]
  exact fun h => State.extractGeneric_wf (s := s.enterDecode) h

/-- Whatever operation answers a next state, it had its effect and no other. -/
theorem Effect.of_exec {i : Instr} (h : exec i s = .next t) : Effect i s t := by
  cases i
  case reset => exact Effect.of_reset h
  case err => exact Effect.of_err h
  case wdog => exact Effect.of_wdog h
  case idle => exact Effect.of_idle h
  case syncSkip => exact Effect.of_syncSkip h
  case syncVbus => exact Effect.of_syncVbus h
  case syncKw => exact Effect.of_syncKw h
  case syncP300 => exact Effect.of_syncP300 h
  case syncKm => exact Effect.of_syncKm h
  case vrxMsb => exact Effect.of_vrxMsb h
  case vrxHdrDiscard => exact Effect.of_vrxHdrDiscard h
  case vrxHdrCrcerr => exact Effect.of_vrxHdrCrcerr h
  case vrxHdrOk => exact Effect.of_vrxHdrOk h
  case vrxStore => exact Effect.of_vrxStore h
  case vrxEndOk => exact Effect.of_vrxEndOk h
  case vrxEndCrcerr => exact Effect.of_vrxEndCrcerr h
  case vrxOvf => exact Effect.of_vrxOvf h
  case krxStore => exact Effect.of_krxStore h
  case krxEndOk => exact Effect.of_krxEndOk h
  case krxEndErr => exact Effect.of_krxEndErr h
  case krxOvf => exact Effect.of_krxOvf h
  case prxStore => exact Effect.of_prxStore h
  case prxEndOk => exact Effect.of_prxEndOk h
  case prxEndErr => exact Effect.of_prxEndErr h
  case prxOvf => exact Effect.of_prxOvf h
  case mrxStore => exact Effect.of_mrxStore h
  case mrxHdrOk => exact Effect.of_mrxHdrOk h
  case mrxHdrErr => exact Effect.of_mrxHdrErr h
  case mrxEndOk => exact Effect.of_mrxEndOk h
  case mrxEndErr => exact Effect.of_mrxEndErr h
  case mrxOvf => exact Effect.of_mrxOvf h
  case decVbusDrop => exact Effect.of_decVbusDrop h
  case decVbusVitosolic => exact Effect.of_decVbusVitosolic h
  case decVbusBx => exact Effect.of_decVbusBx h
  case decVbusMx => exact Effect.of_decVbusMx h
  case decVbusGeneric => exact Effect.of_decVbusGeneric h
  case decKw => exact Effect.of_decKw h
  case decP300 => exact Effect.of_decP300 h
  case decKmStatus => exact Effect.of_decKmStatus h
  case decKmOther => exact Effect.of_decKmOther h

end Sys2Proof.Machine
end

