-- ==== Sys2Proof/Laws/PerInstr.lean ====
section
/-! SUPPORT. The per-operation family WordShape: the operation word of an operation is two octets, the event octet (0
where the operation has none) and the row number, and the row gives the operation back with that octet. -/

namespace Sys2Proof.Laws

/-- The shape of the operation word of `i` (log entry 8). -/
def WordShape.Statement (i : Instr) : Prop :=
  (encode i).length = 2 ∧ encode i = [i.eventOctet.getD 0, BitVec.ofNat 8 i.number] ∧
    rowInstr i.number (i.eventOctet.getD 0) = some i

theorem WordShape.reset : WordShape.Statement .reset := ⟨rfl, rfl, rfl⟩
theorem WordShape.err : WordShape.Statement .err := ⟨rfl, rfl, rfl⟩
theorem WordShape.wdog : WordShape.Statement .wdog := ⟨rfl, rfl, rfl⟩
theorem WordShape.idle : WordShape.Statement .idle := ⟨rfl, rfl, rfl⟩
theorem WordShape.syncSkip (b : Byte) : WordShape.Statement (.syncSkip b) := ⟨rfl, rfl, rfl⟩
theorem WordShape.syncVbus (b : Byte) : WordShape.Statement (.syncVbus b) := ⟨rfl, rfl, rfl⟩
theorem WordShape.syncKw (b : Byte) : WordShape.Statement (.syncKw b) := ⟨rfl, rfl, rfl⟩
theorem WordShape.syncP300 (b : Byte) : WordShape.Statement (.syncP300 b) := ⟨rfl, rfl, rfl⟩
theorem WordShape.syncKm (b : Byte) : WordShape.Statement (.syncKm b) := ⟨rfl, rfl, rfl⟩
theorem WordShape.vrxMsb (b : Byte) : WordShape.Statement (.vrxMsb b) := ⟨rfl, rfl, rfl⟩
theorem WordShape.vrxHdrDiscard (b : Byte) : WordShape.Statement (.vrxHdrDiscard b) := ⟨rfl, rfl, rfl⟩
theorem WordShape.vrxHdrCrcerr (b : Byte) : WordShape.Statement (.vrxHdrCrcerr b) := ⟨rfl, rfl, rfl⟩
theorem WordShape.vrxHdrOk (b : Byte) : WordShape.Statement (.vrxHdrOk b) := ⟨rfl, rfl, rfl⟩
theorem WordShape.vrxStore (b : Byte) : WordShape.Statement (.vrxStore b) := ⟨rfl, rfl, rfl⟩
theorem WordShape.vrxEndOk (b : Byte) : WordShape.Statement (.vrxEndOk b) := ⟨rfl, rfl, rfl⟩
theorem WordShape.vrxEndCrcerr (b : Byte) : WordShape.Statement (.vrxEndCrcerr b) := ⟨rfl, rfl, rfl⟩
theorem WordShape.vrxOvf (b : Byte) : WordShape.Statement (.vrxOvf b) := ⟨rfl, rfl, rfl⟩
theorem WordShape.krxStore (b : Byte) : WordShape.Statement (.krxStore b) := ⟨rfl, rfl, rfl⟩
theorem WordShape.krxEndOk (b : Byte) : WordShape.Statement (.krxEndOk b) := ⟨rfl, rfl, rfl⟩
theorem WordShape.krxEndErr (b : Byte) : WordShape.Statement (.krxEndErr b) := ⟨rfl, rfl, rfl⟩
theorem WordShape.krxOvf (b : Byte) : WordShape.Statement (.krxOvf b) := ⟨rfl, rfl, rfl⟩
theorem WordShape.prxStore (b : Byte) : WordShape.Statement (.prxStore b) := ⟨rfl, rfl, rfl⟩
theorem WordShape.prxEndOk (b : Byte) : WordShape.Statement (.prxEndOk b) := ⟨rfl, rfl, rfl⟩
theorem WordShape.prxEndErr (b : Byte) : WordShape.Statement (.prxEndErr b) := ⟨rfl, rfl, rfl⟩
theorem WordShape.prxOvf (b : Byte) : WordShape.Statement (.prxOvf b) := ⟨rfl, rfl, rfl⟩
theorem WordShape.mrxStore (b : Byte) : WordShape.Statement (.mrxStore b) := ⟨rfl, rfl, rfl⟩
theorem WordShape.mrxHdrOk (b : Byte) : WordShape.Statement (.mrxHdrOk b) := ⟨rfl, rfl, rfl⟩
theorem WordShape.mrxHdrErr (b : Byte) : WordShape.Statement (.mrxHdrErr b) := ⟨rfl, rfl, rfl⟩
theorem WordShape.mrxEndOk (b : Byte) : WordShape.Statement (.mrxEndOk b) := ⟨rfl, rfl, rfl⟩
theorem WordShape.mrxEndErr (b : Byte) : WordShape.Statement (.mrxEndErr b) := ⟨rfl, rfl, rfl⟩
theorem WordShape.mrxOvf (b : Byte) : WordShape.Statement (.mrxOvf b) := ⟨rfl, rfl, rfl⟩
theorem WordShape.decVbusDrop : WordShape.Statement .decVbusDrop := ⟨rfl, rfl, rfl⟩
theorem WordShape.decVbusVitosolic : WordShape.Statement .decVbusVitosolic := ⟨rfl, rfl, rfl⟩
theorem WordShape.decVbusBx : WordShape.Statement .decVbusBx := ⟨rfl, rfl, rfl⟩
theorem WordShape.decVbusMx : WordShape.Statement .decVbusMx := ⟨rfl, rfl, rfl⟩
theorem WordShape.decVbusGeneric : WordShape.Statement .decVbusGeneric := ⟨rfl, rfl, rfl⟩
theorem WordShape.decKw : WordShape.Statement .decKw := ⟨rfl, rfl, rfl⟩
theorem WordShape.decP300 : WordShape.Statement .decP300 := ⟨rfl, rfl, rfl⟩
theorem WordShape.decKmStatus : WordShape.Statement .decKmStatus := ⟨rfl, rfl, rfl⟩
theorem WordShape.decKmOther : WordShape.Statement .decKmOther := ⟨rfl, rfl, rfl⟩

end Sys2Proof.Laws
end

