-- ==== Sys2Proof/Tests/Slice0.lean ====
section
/-! SUPPORT. The model's own tests: well-formedness, operation words written out from 30_encoding.md R81, one step per
operation with the results the rules and their examples give, and for every obligation with hypotheses a state that
meets them. -/

namespace Sys2Proof.Tests

open Sys2Proof Sys2Proof.Machine

/-! ### Well-formedness: each check refuses an octet outside its row -/

theorem test_wf_syncVbus_refused : Instr.wellFormed (.syncVbus 0xAB) = false := by decide
theorem test_wf_syncKw_refused : Instr.wellFormed (.syncKw 0x05) = false := by decide
theorem test_wf_syncP300_refused : Instr.wellFormed (.syncP300 0x02) = false := by decide
theorem test_wf_syncKm_refused : Instr.wellFormed (.syncKm 0x69) = false := by decide
theorem test_wf_vrxMsb_refused : Instr.wellFormed (.vrxMsb 0x7F) = false := by decide
theorem test_wf_vrxHdrDiscard_refused : Instr.wellFormed (.vrxHdrDiscard 0x80) = false := by decide
theorem test_wf_vrxHdrCrcerr_refused : Instr.wellFormed (.vrxHdrCrcerr 0x80) = false := by decide
theorem test_wf_vrxHdrOk_refused : Instr.wellFormed (.vrxHdrOk 0x80) = false := by decide
theorem test_wf_vrxStore_refused : Instr.wellFormed (.vrxStore 0x80) = false := by decide
theorem test_wf_vrxEndOk_refused : Instr.wellFormed (.vrxEndOk 0x80) = false := by decide
theorem test_wf_vrxEndCrcerr_refused : Instr.wellFormed (.vrxEndCrcerr 0x80) = false := by decide
theorem test_wf_vrxOvf_refused : Instr.wellFormed (.vrxOvf 0x80) = false := by decide
theorem test_wf_mrxHdrOk_refused : Instr.wellFormed (.mrxHdrOk 0x69) = false := by decide
theorem test_wf_mrxEndOk_refused : Instr.wellFormed (.mrxEndOk 0x17) = false := by decide
theorem test_wf_syncP300_both : Instr.wellFormed (.syncP300 0x05) = true ∧ Instr.wellFormed (.syncP300 0x01) = true := by
  decide

/-! ### Operation words (log entry 8): the event octet of R71, then the row number of R81 -/

theorem test_word_reset : decode [0x00, 0x01] = .ok .reset := by decide
theorem test_word_err : decode [0x00, 0x02] = .ok .err := by decide
theorem test_word_wdog : decode [0x00, 0x03] = .ok .wdog := by decide
theorem test_word_idle : decode [0x00, 0x04] = .ok .idle := by decide
theorem test_word_syncSkip : decode [0x55, 0x05] = .ok (.syncSkip 0x55) := by decide
theorem test_word_syncVbus : decode [0xAA, 0x06] = .ok (.syncVbus 0xAA) := by decide
theorem test_word_syncKw : decode [0x01, 0x07] = .ok (.syncKw 0x01) := by decide
theorem test_word_syncP300 : decode [0x05, 0x08] = .ok (.syncP300 0x05) := by decide
theorem test_word_syncKm : decode [0x68, 0x09] = .ok (.syncKm 0x68) := by decide
theorem test_word_vrxMsb : decode [0x85, 0x0A] = .ok (.vrxMsb 0x85) := by decide
theorem test_word_vrxHdrDiscard : decode [0x00, 0x0B] = .ok (.vrxHdrDiscard 0x00) := by decide
theorem test_word_vrxHdrCrcerr : decode [0x00, 0x0C] = .ok (.vrxHdrCrcerr 0x00) := by decide
theorem test_word_vrxHdrOk : decode [0x00, 0x0D] = .ok (.vrxHdrOk 0x00) := by decide
theorem test_word_vrxStore : decode [0x7E, 0x0E] = .ok (.vrxStore 0x7E) := by decide
theorem test_word_vrxEndOk : decode [0x7F, 0x0F] = .ok (.vrxEndOk 0x7F) := by decide
theorem test_word_vrxEndCrcerr : decode [0x7E, 0x10] = .ok (.vrxEndCrcerr 0x7E) := by decide
theorem test_word_vrxOvf : decode [0x00, 0x11] = .ok (.vrxOvf 0x00) := by decide
theorem test_word_krxStore : decode [0x03, 0x12] = .ok (.krxStore 0x03) := by decide
theorem test_word_krxEndOk : decode [0x6D, 0x13] = .ok (.krxEndOk 0x6D) := by decide
theorem test_word_krxEndErr : decode [0x6C, 0x14] = .ok (.krxEndErr 0x6C) := by decide
theorem test_word_krxOvf : decode [0xFF, 0x15] = .ok (.krxOvf 0xFF) := by decide
theorem test_word_prxStore : decode [0x04, 0x16] = .ok (.prxStore 0x04) := by decide
theorem test_word_prxEndOk : decode [0xD1, 0x17] = .ok (.prxEndOk 0xD1) := by decide
theorem test_word_prxEndErr : decode [0xD0, 0x18] = .ok (.prxEndErr 0xD0) := by decide
theorem test_word_prxOvf : decode [0xFE, 0x19] = .ok (.prxOvf 0xFE) := by decide
theorem test_word_mrxStore : decode [0x0F, 0x1A] = .ok (.mrxStore 0x0F) := by decide
theorem test_word_mrxHdrOk : decode [0x68, 0x1B] = .ok (.mrxHdrOk 0x68) := by decide
theorem test_word_mrxHdrErr : decode [0x68, 0x1C] = .ok (.mrxHdrErr 0x68) := by decide
theorem test_word_mrxEndOk : decode [0x16, 0x1D] = .ok (.mrxEndOk 0x16) := by decide
theorem test_word_mrxEndErr : decode [0x17, 0x1E] = .ok (.mrxEndErr 0x17) := by decide
theorem test_word_mrxOvf : decode [0x80, 0x1F] = .ok (.mrxOvf 0x80) := by decide
theorem test_word_decVbusDrop : decode [0x00, 0x20] = .ok .decVbusDrop := by decide
theorem test_word_decVbusVitosolic : decode [0x00, 0x21] = .ok .decVbusVitosolic := by decide
theorem test_word_decVbusBx : decode [0x00, 0x22] = .ok .decVbusBx := by decide
theorem test_word_decVbusMx : decode [0x00, 0x23] = .ok .decVbusMx := by decide
theorem test_word_decVbusGeneric : decode [0x00, 0x24] = .ok .decVbusGeneric := by decide
theorem test_word_decKw : decode [0x00, 0x25] = .ok .decKw := by decide
theorem test_word_decP300 : decode [0x00, 0x26] = .ok .decP300 := by decide
theorem test_word_decKmStatus : decode [0x00, 0x27] = .ok .decKmStatus := by decide
theorem test_word_decKmOther : decode [0x00, 0x28] = .ok .decKmOther := by decide
theorem test_word_short : decode [0xAA] = .error .wrongLength := by decide
theorem test_word_row0 : decode [0x00, 0x00] = .error .noSuchRow := by decide
theorem test_word_row41 : decode [0x00, 0x29] = .error .noSuchRow := by decide
theorem test_word_octet : decode [0xAB, 0x06] = .error .octetDoesNotFit := by decide
theorem test_word_none_octet : decode [0x01, 0x04] = .error .octetDoesNotFit := by decide

/-! ### Words of spec/opcode_table.json (log entry 9) -/

theorem test_table_sync_vbus : decodeTableWord 8 0xAA = some (.syncVbus 0xAA) := by decide
theorem test_table_vrx_end_ok : decodeTableWord 16 0x807F = some (.vrxEndOk 0x7F) := by decide
theorem test_table_mrx_end_ok : decodeTableWord 32 0x20000016 = some (.mrxEndOk 0x16) := by decide
theorem test_table_reset : decodeTableWord 8 0x02 = some .reset := by decide

/-! ### One step: helpers -/

/-- A state under `p` in `ph` with `octets` stored as the frame so far and `pending` presented, at `now_ms = 0`. -/
def frameState (p : Protocol) (ph : Phase) (octets pending : List Byte) : State :=
  { State.reset with
    protocol := p
    phase := ph
    writeIdx := BitVec.ofNat 8 octets.length
    buf := octets.zipIdx.map fun c => (c.2, c.1)
    ports := ⟨false, p.code, 0, pending⟩ }

/-- A validated VBUS frame in DECODE, its header decoded. -/
def vbusState (octets : List Byte) : State := (frameState .vbus .decode octets []).decodeHeader

/-- A state whose buffer holds only the octets at the listed indices, with `write_idx = k`. -/
def sparseState (p : Protocol) (k : Nat) (cells : FrameBuffer) (b : Byte) : State :=
  { frameState p .receive [] [b] with writeIdx := BitVec.ofNat 8 k, buf := cells }

/-- The answer is a next state of which `check` holds. -/
def holds (r : Result) (check : State → Bool) : Bool :=
  match r with
  | .next t => check t
  | _ => false

/-- The temperatures `T[0], T[1], ...` up to the list's length, as signed tenths. -/
def temps (t : State) (vs : List Int) : Bool :=
  (vs.zipIdx.all fun c => t.tempTenths (Fin.ofNat 32 c.2) == c.1)

/-- The pump registers `P[0], P[1], ...`. -/
def pumpsAre (t : State) (vs : List Byte) : Bool :=
  (vs.zipIdx.all fun c => t.pump.get (Fin.ofNat 32 c.2) == c.1)

/-- The relay registers `R[0], R[1], ...`. -/
def relaysAre (t : State) (vs : List Bool) : Bool :=
  (vs.zipIdx.all fun c => t.relay.get (Fin.ofNat 32 c.2) == c.1)

/-- The three counts. -/
def countsAre (t : State) (x y z : BitVec 8) : Bool := t.tempNum == x && t.pumpNum == y && t.relayNum == z

/-- `phase` and `write_idx`. -/
def ctl (t : State) (ph : Phase) (k : BitVec 8) : Bool := t.phase == ph && t.writeIdx == k

/-! ### One step: system and sync (40_system_sync.md, 60_exceptions.md) -/

/-- R100, its example: `RST KM @5000`. -/
theorem test_reset : holds (step { frameState .vbus .receive [1, 2] [] with ports := ⟨true, 3, 5000, []⟩ })
    (fun t => ctl t .sync 0 && t.protocol == .km && t.lastProgressMs == 5000 && !t.ready && t.busOk) = true := by decide

/-- R240, its example. -/
theorem test_err : holds (step { frameState .vbus .error [] [0xAA] with writeIdx := 10, ready := true })
    (fun t => ctl t .sync 0 && !t.ready && !t.busOk && t.ports.rxPending == [0xAA]) = true := by decide

/-- R243, its example: at 20000 the step is IDLE. -/
theorem test_wdog_limit : holds (step { State.reset with ports := ⟨false, 0, 20000, []⟩ })
    (fun t => ctl t .sync 0 && t.lastProgressMs == 0) = true := by decide

/-- R243, its example: at 20001 it is WDOG. -/
theorem test_wdog : holds (step { State.reset with ports := ⟨false, 0, 20001, [0xAA]⟩ })
    (fun t => ctl t .error 0 && t.lastProgressMs == 20001 && t.ports.rxPending == [0xAA]) = true := by decide

/-- R244: with WDOG_REARM = false the time is left alone. -/
theorem test_wdog_no_rearm : holds (step { State.reset with ports := ⟨false, 0, 20001, []⟩, wdogRearm := false })
    (fun t => ctl t .error 0 && t.lastProgressMs == 0) = true := by decide

/-- R101, its example. -/
theorem test_idle : holds (step (frameState .kw .receive [1, 9, 0, 0, 0, 0, 0] []))
    (fun t => ctl t .receive 7) = true := by decide

/-- R102. -/
theorem test_sync_skip : holds (step (frameState .vbus .sync [] [0x7F, 0x55]))
    (fun t => ctl t .sync 0 && t.ports.rxPending == [0x55] && t.busOk) = true := by decide

/-- R103, its example; the header scratch is cleared. -/
theorem test_sync_vbus : holds (step { frameState .vbus .sync [] [0xAA] with header := ⟨1, 2, 3, 4, 5, 6⟩ })
    (fun t => ctl t .receive 0 && t.header == Header.zero && t.buf == []) = true := by decide

/-- R104, its example. -/
theorem test_sync_kw : holds (step (frameState .kw .sync [] [0x01]))
    (fun t => ctl t .receive 1 && t.octet 0 == 0x01) = true := by decide

/-- R105, its example. -/
theorem test_sync_p300 : holds (step (frameState .p300 .sync [] [0x05]))
    (fun t => ctl t .receive 1 && t.octet 0 == 0x05) = true := by decide

/-- R105: the other sync value is stored as it arrived. -/
theorem test_sync_p300_alt : holds (step (frameState .p300 .sync [] [0x01]))
    (fun t => ctl t .receive 1 && t.octet 0 == 0x01) = true := by decide

/-- R106, its example. -/
theorem test_sync_km : holds (step (frameState .km .sync [] [0x68]))
    (fun t => ctl t .receive 1 && t.octet 0 == 0x68) = true := by decide

/-! ### One step: VBUS RECEIVE (41_vbus_receive.md) -/

/-- R122, its example. -/
theorem test_vrx_msb : holds (step (sparseState .vbus 10 [] 0x85))
    (fun t => ctl t .error 10 && t.buf == [] && t.ports.rxPending == []) = true := by decide

/-- R108: a 0xAA in RECEIVE is consumed by the Error. -/
theorem test_vrx_msb_sync : holds (step (sparseState .vbus 3 [] 0xAA))
    (fun t => ctl t .error 3 && t.ports.rxPending == []) = true := by decide

/-- R124, its example. -/
theorem test_vrx_hdr_discard :
    holds (step (frameState .vbus .receive [0x10, 0, 0x21, 0x7E, 0x20, 0, 1, 2, 0x2D, 0] [0]))
      (fun t => ctl t .sync 0 && t.header.protoVer == 2 && t.header.srcAddr == 0x7E21 && t.busOk) = true := by decide

/-- R125, its example. -/
theorem test_vrx_hdr_crcerr :
    holds (step (frameState .vbus .receive [0x10, 0, 0x21, 0x7E, 0x10, 0, 1, 2, 0x7B, 0x20] [0]))
      (fun t => ctl t .error 11) = true := by decide

/-- R126, its example. -/
theorem test_vrx_hdr_ok :
    holds (step (frameState .vbus .receive [0x10, 0, 0x21, 0x7E, 0x10, 0, 1, 2, 0x3D, 0x20] [0]))
      (fun t => ctl t .receive 11 && t.header == ⟨0x0010, 0x7E21, 1, 0x0100, 2, 22⟩) = true := by decide

/-- R127, its example. -/
theorem test_vrx_store : holds (step (frameState .vbus .receive [0x10, 0, 0x21] [0x7E]))
    (fun t => ctl t .receive 4 && t.octet 3 == 0x7E) = true := by decide

/-- The first twenty octets of R128's example. -/
def s1Octets : List Byte :=
  [0x10, 0, 0x21, 0x7E, 0x10, 0, 1, 2, 0x3D, 0x20, 0x00, 0x40, 0, 0, 0x1F, 0x30, 0, 0x50, 0, 0]

/-- The state of R128's example before its last octet `b`. -/
def s1State (b : Byte) : State := (frameState .vbus .receive s1Octets [b]).decodeHeader

/-- R128, its example. -/
theorem test_vrx_end_ok : holds (step (s1State 0x7F)) (fun t => ctl t .decode 21 && !t.ready) = true := by decide

/-- R129, its example. -/
theorem test_vrx_end_crcerr : holds (step (s1State 0x7E)) (fun t => ctl t .error 21) = true := by decide

/-- R130: the octet at index 254 of a frame that cannot complete. -/
theorem test_vrx_ovf : holds (step (sparseState .vbus 254 [] 0x00))
    (fun t => ctl t .error 255 && t.octet 254 == 0x00) = true := by decide

/-! ### One step: KW, P300, KM RECEIVE (42_kw_p300_receive.md, 43_kmbus_receive.md) -/

/-- R141, its example. -/
theorem test_krx_store : holds (step (frameState .kw .receive [0x01] [0x03]))
    (fun t => ctl t .receive 2 && t.octet 1 == 0x03) = true := by decide

/-- R142, its example. -/
theorem test_krx_end_ok : holds (step (frameState .kw .receive [0x01, 0x03, 0x10, 0x00, 0x7F] [0x6D]))
    (fun t => ctl t .decode 6) = true := by decide

/-- R143, its example. -/
theorem test_krx_end_err : holds (step (frameState .kw .receive [0x01, 0x03, 0x10, 0x00, 0x7F] [0x6C]))
    (fun t => ctl t .error 6) = true := by decide

/-- R144, its example. -/
theorem test_krx_ovf : holds (step (sparseState .kw 254 [(0, 0x01), (1, 0xFF)] 0x22))
    (fun t => ctl t .error 255 && t.octet 254 == 0x22) = true := by decide

/-- R145, its example. -/
theorem test_prx_store : holds (step (frameState .p300 .receive [0x05] [0x04]))
    (fun t => ctl t .receive 2 && t.octet 1 == 0x04) = true := by decide

/-- R146, its example. -/
theorem test_prx_end_ok : holds (step (frameState .p300 .receive [0x05, 0x04, 0, 0, 0, 0xC8] [0xD1]))
    (fun t => ctl t .decode 7) = true := by decide

/-- R147, its example. -/
theorem test_prx_end_err : holds (step (frameState .p300 .receive [0x05, 0x04, 0, 0, 0, 0xC8] [0xD0]))
    (fun t => ctl t .error 7) = true := by decide

/-- R148, its example. -/
theorem test_prx_ovf : holds (step (sparseState .p300 254 [(0, 0x05), (1, 0xFE)] 0x22))
    (fun t => ctl t .error 255 && t.octet 254 == 0x22) = true := by decide

/-- R163, its example. -/
theorem test_mrx_store : holds (step (frameState .km .receive [0x68] [0x0F]))
    (fun t => ctl t .receive 2 && t.octet 1 == 0x0F) = true := by decide

/-- R164, its example. -/
theorem test_mrx_hdr_ok : holds (step (frameState .km .receive [0x68, 0x0F, 0x0F] [0x68]))
    (fun t => ctl t .receive 4 && t.octet 3 == 0x68) = true := by decide

/-- R165, its example. -/
theorem test_mrx_hdr_err : holds (step (frameState .km .receive [0x68, 0x0F, 0x0E] [0x68]))
    (fun t => ctl t .error 4) = true := by decide

/-- R166, its example. -/
theorem test_mrx_end_ok :
    holds (step (frameState .km .receive [0x68, 0x03, 0x03, 0x68, 0xBF, 0x11, 0x22, 0xDC, 0x4E] [0x16]))
      (fun t => ctl t .decode 10) = true := by
  decide +kernel

/-- R167, its example: a wrong stop octet. -/
theorem test_mrx_end_err_stop :
    holds (step (frameState .km .receive [0x68, 0x03, 0x03, 0x68, 0xBF, 0x11, 0x22, 0xDC, 0x4E] [0x17]))
      (fun t => ctl t .error 10) = true := by decide

/-- R167, its example: a wrong CRC. -/
theorem test_mrx_end_err_crc :
    holds (step (frameState .km .receive [0x68, 0x03, 0x03, 0x68, 0xBF, 0x11, 0x22, 0xDD, 0x4E] [0x16]))
      (fun t => ctl t .error 10) = true := by
  decide +kernel

/-- R168, its example. -/
theorem test_mrx_ovf : holds (step (sparseState .km 254 [(0, 0x68), (1, 0xFF), (2, 0xFF), (3, 0x68)] 0x22))
    (fun t => ctl t .error 255 && t.octet 254 == 0x22) = true := by decide

/-! ### One step: DECODE (44_decode_vbus.md, 45_decode_kw_p300_km.md) -/

/-- R186, its example. -/
theorem test_dec_drop :
    holds (step { vbusState [0x10, 0, 0x21, 0x7E, 0x10, 0, 2, 1, 0x3D, 1, 2, 3, 4, 0, 0x75] with
        ports := ⟨false, 0, 50, []⟩, busOk := false })
      (fun t => ctl t .sync 0 && !t.ready && t.busOk && t.lastProgressMs == 50 && countsAre t 0 0 0) = true := by decide

/-- R190, its example. -/
theorem test_dec_bx :
    holds (step (vbusState (s1Octets ++ [0x7F])))
      (fun t => ctl t .sync 0 && t.ready && temps t [32, 64, 48, 80, 0, 0] && pumpsAre t [0, 0] &&
        relaysAre t [false, false] && countsAre t 6 2 2) = true := by decide

/-- R192, its example. -/
theorem test_dec_generic :
    holds (step (vbusState [0x10, 0, 0x12, 0x42, 0x10, 0, 1, 1, 0x09, 0x7E, 0x7F, 0x64, 0x00, 0x03, 0x1B]))
      (fun t => t.ready && temps t [-2, 100, 0, 0] && countsAre t 4 0 0 && t.octet 9 == 0xFE && t.octet 13 == 0x03)
      = true := by decide

/-- The vector V-MX of 95_test_vectors.md. -/
def mxGroups : List (Byte × Byte × Byte × Byte) :=
  [(0x2C, 0x01, 0xF6, 0xFF), (0x00, 0x00, 0x10, 0x27), (0x1E, 0x00, 0x64, 0x80), (0x39, 0x30, 0x01, 0x00),
    (0xE8, 0x03, 0x00, 0x00), (0x01, 0x80, 0x00, 0x00)]

/-- R191, its example (V-MX). -/
theorem test_dec_mx :
    holds (step (vbusState (vbusFrame 0x0010 0x7E31 0x0100 mxGroups).tail))
      (fun t => temps t [300, -10, 0, 10000] && pumpsAre t [30, 0, 100, 0] && relaysAre t [true, false, true, false] &&
        t.opHours.get 0 == 12345 && t.opHours.get 1 == 1 && t.heatQuantityWh == 1000 && t.errorMask == 0x8001 &&
        countsAre t 4 4 4) = true := by decide

/-- The vector V-BX7 of 95_test_vectors.md. -/
def bxGroups : List (Byte × Byte × Byte × Byte) :=
  [(0xE8, 0x03, 0x18, 0xFC), (0x00, 0x00, 0x01, 0x00), (0xFF, 0x7F, 0x00, 0x80), (0x09, 0x09, 0x09, 0x09),
    (0x00, 0x64, 0x07, 0x07), (0x10, 0x27, 0xFF, 0xFF), (0xD2, 0x04, 0x01, 0x01)]

/-- V-BX7. -/
theorem test_dec_bx7 :
    holds (step (vbusState (vbusFrame 0 0x7E11 0x0100 bxGroups).tail))
      (fun t => temps t [1000, -1000, 0, 1, 32767, -32768] && pumpsAre t [0, 100] && relaysAre t [false, true] &&
        t.opHours.get 0 == 10000 && t.opHours.get 1 == 65535 && t.heatQuantityWh == 1234 && countsAre t 6 2 2) = true := by decide

/-- The vector V-VITO of 95_test_vectors.md. -/
def vitoGroups : List (Byte × Byte × Byte × Byte) :=
  [(0xD7, 0x00, 0xCB, 0xFF), (0x8A, 0x02, 0xD2, 0x04), (0xFF, 0xFF, 0x00, 0x00), (0xFF, 0x7F, 0x00, 0x80),
    (0x64, 0x00, 0xC8, 0x00), (0x2C, 0x01, 0x90, 0x01), (0, 0, 0, 0), (0, 0, 0, 0), (0, 0, 0, 0), (0, 0, 0, 0),
    (0, 0, 0, 0), (0x64, 0x00, 0x32, 0xE4), (0x64, 0x63, 0x7F, 0x55), (0x34, 0x82, 0xA0, 0x05),
    (0x85, 0x01, 0x02, 0x03)]

/-- R189, its example (V-VITO). -/
theorem test_dec_vitosolic :
    holds (step (vbusState (vbusFrame 0x0010 0x1060 0x0100 vitoGroups).tail))
      (fun t => temps t [215, -53, 650, 1234, -1, 0, 32767, -32768, 100, 200, 300, 400] &&
        pumpsAre t [100, 0, 50, 100, 100, 99, 127] &&
        relaysAre t [true, false, false, true, true, false, false] && t.errorMask == 0x8234 &&
        t.systemTimeMinutes == 1440 && t.systemVariant == 0x85 && countsAre t 12 7 7) = true := by decide

/-- R189 with R184: a frame of two blocks leaves the registers of the absent blocks. -/
theorem test_dec_vitosolic_short :
    holds (step { vbusState (vbusFrame 0x0010 0x1060 0x0100 [(1, 0, 2, 0), (3, 0, 4, 0)]).tail with errorMask := 7 })
      (fun t => temps t [1, 2, 3, 4, 0, 0] && t.errorMask == 7 && countsAre t 12 7 7) = true := by decide

/-- R211, its example. -/
theorem test_dec_kw :
    holds (step { frameState .kw .decode [0x01, 0x03, 0x10, 0x00, 0x7F, 0x6D] [] with pump := Vector.replicate 32 5 })
      (fun t => ctl t .sync 0 && t.ready && temps t [127, 0] && countsAre t 1 0 0 && pumpsAre t [0, 0]) = true := by
  decide

/-- R211, its second example. -/
theorem test_dec_kw_four :
    holds (step (frameState .kw .decode [0x01, 0x09, 0x00, 0x01, 0x2C, 0xFF, 0x9C, 0x7F, 0xFF, 0x80, 0x00, 0x46] []))
      (fun t => temps t [300, -100, 32767, -32768] && countsAre t 4 0 0) = true := by decide

/-- R212, its example. -/
theorem test_dec_p300 :
    holds (step (frameState .p300 .decode [0x05, 0x08, 0x41, 0, 1, 0x01, 0xF4, 0xFF, 0x38, 0, 0x7B] []))
      (fun t => temps t [500, -200, 0] && countsAre t 2 0 0 && t.ready) = true := by decide

/-- The status record of R219's example; the selector octet and the gate octet are parameters. -/
def kmOctets (selector gate : Byte) : List Byte :=
  [0x68, 0x0F, 0x0F, 0x68, 0xBF, 0, 0, selector, 0xAE, 0xAA, 0xD2, 0xCE, 0xFA, 0xAA, 0x82, 0x6A, 0xC4, gate, 0x2E,
    0x46, 0x48, 0x16]

/-- R219, its example. -/
theorem test_dec_km_status :
    holds (step (frameState .km .decode (kmOctets 0x1C 0xAA) []))
      (fun t => t.km == ⟨true, true, true, 0x84, 600, 500, 200, 400, 550⟩ && temps t [600, 500, 200, 400, 550, 0] &&
        pumpsAre t [100, 100, 0] && relaysAre t [true, false] && countsAre t 5 2 1 && t.ready) = true := by decide

/-- R217: with the gate failing `km_mode` keeps its value and the rest is decoded. -/
theorem test_dec_km_gate :
    holds (step { frameState .km .decode (kmOctets 0x1F 0x00) [] with km := ⟨false, false, false, 9, 0, 0, 0, 0, 0⟩ })
      (fun t => t.km == ⟨true, true, true, 9, 600, 500, 200, 400, 550⟩) = true := by decide

/-- R220, its example: selector 0x20. -/
theorem test_dec_km_other :
    holds (step (frameState .km .decode (kmOctets 0x20 0xAA) []))
      (fun t => ctl t .sync 0 && t.ready && t.km == KmView.zero && countsAre t 0 0 0) = true := by decide

/-! ### The integrity checks -/

/-- R161 (c): the nine ASCII octets. -/
theorem test_crc16_digits :
    crc16km (readerOf [0x31, 0x32, 0x33, 0x34, 0x35, 0x36, 0x37, 0x38, 0x39]) 0 9 = 0x2189 := by
  decide +kernel

/-- R161 (c): one octet. -/
theorem test_crc16_one : crc16km (readerOf [0x01]) 0 1 = 0x1189 := by
  decide +kernel

/-- R125, its example. -/
theorem test_calc_crc : calcCrc (readerOf [0x10, 0, 0x21, 0x7E, 0x10, 0, 1, 2, 0x7B]) 0 9 = 0x42 := by decide

/-! ### Every obligation's hypotheses are met

One theorem per obligation with hypotheses, one witness per clause; boundary values where a range is given. -/

/-- A KW frame in RECEIVE, two octets stored, one presented. -/
def kwState : State := frameState .kw .receive [0x01, 0x03] [0x10]

/-- A VBUS frame in RECEIVE just past its header, announcing `fc` blocks. -/
def pastHeader (fc : Byte) : State :=
  (frameState .vbus .receive [0x10, 0, 0x21, 0x7E, 0x10, 0, 1, fc, 0x3D, 0, 0] [0x00]).decodeHeader

theorem kwState_inv : Inv kwState := by constructor <;> decide
theorem pastHeader_inv0 : Inv (pastHeader 0) := by constructor <;> decide
theorem pastHeader_inv42 : Inv (pastHeader 42) := by constructor <;> decide

theorem witness_StepRunsSelectedOperation :
    kwState.selected = .krxStore 0x10 ∧ (∃ t, exec (.krxStore 0x10) kwState = .next t) ∧
      (sparseState .kw 255 [(1, 0xFF)] 0x10).selected = .krxStore 0x10 ∧
      exec (.krxStore 0x10) (sparseState .kw 255 [(1, 0xFF)] 0x10) = .fault .bufferIndex :=
  ⟨by decide, ⟨_, rfl⟩, by decide, rfl⟩

theorem witness_SelectionFindsTheOneRow :
    (sparseState .vbus 254 [] 0x00).phase = .receive ∧ (sparseState .vbus 254 [] 0x00).writeIdx.toNat < 255 := by
  decide

theorem witness_SelectedOperationIsWellFormed : kwState.selected.eventOctet = some 0x10 := by decide

theorem witness_DecodeEncodeRoundTrip :
    Instr.wellFormed (.vrxStore 0x7F) = true ∧ Instr.wellFormed (.vrxMsb 0x80) = true ∧
      Instr.wellFormed (.syncP300 0x01) = true := by decide

theorem witness_DecodedWordsAreCanonical : decode [0x7F, 0x0E] = .ok (.vrxStore 0x7F) := by decide

theorem witness_EveryOperationIsSelectable :
    Instr.wellFormed (.mrxEndOk 0x16) = true ∧ (State.reset.place (.mrxEndOk 0x16)).selected = .mrxEndOk 0x16 := by
  decide

theorem witness_ErrClearsFlagsAndReturns :
    (frameState .vbus .error [] []).ports.rst = false ∧ (frameState .vbus .error [] []).phase = .error := by decide

theorem witness_SyncStoresFirstOctet :
    Instr.syncKm 0x68 ∈ [Instr.syncKw 0x68, Instr.syncP300 0x68, Instr.syncKm 0x68] := by decide

theorem witness_StoreAppendsOctet :
    Instr.vrxStore 0x00 ∈ [Instr.vrxStore 0x00, Instr.krxStore 0x00, Instr.prxStore 0x00, Instr.mrxStore 0x00] ∧
      (sparseState .vbus 254 [] 0x00).writeIdx.toNat < 255 := by decide

theorem witness_EndOkEntersDecode :
    Instr.vrxEndOk 0x7F ∈ [Instr.vrxEndOk 0x7F, Instr.krxEndOk 0x7F, Instr.prxEndOk 0x7F, Instr.mrxEndOk 0x7F] ∧
      (sparseState .vbus 254 [] 0x7F).writeIdx.toNat < 255 ∧ (pastHeader 41).header.frameCnt.toNat ≤ 41 ∧
      (pastHeader 41).writeIdx.toNat < 255 := by decide

theorem witness_EndErrRaises :
    Instr.vrxEndCrcerr 0x7F ∈
        [Instr.vrxEndCrcerr 0x7F, Instr.krxEndErr 0x7F, Instr.prxEndErr 0x7F, Instr.mrxEndErr 0x7F] ∧
      (pastHeader 41).header.frameCnt.toNat ≤ 41 ∧ (pastHeader 41).writeIdx.toNat < 255 := by decide

theorem witness_OverflowFillsBufferAndRaises :
    Instr.prxOvf 0x00 ∈ [Instr.vrxOvf 0x00, Instr.krxOvf 0x00, Instr.prxOvf 0x00, Instr.mrxOvf 0x00] := by decide

/-- The header of R126's example, its eleventh octet presented. -/
def headerState : State := frameState .vbus .receive [0x10, 0, 0x21, 0x7E, 0x10, 0, 1, 2, 0x3D, 0x20] [0]

theorem witness_HeaderOperationsLatchHeader :
    Instr.vrxHdrOk 0 ∈ [Instr.vrxHdrDiscard 0, Instr.vrxHdrCrcerr 0, Instr.vrxHdrOk 0] ∧
      headerState.writeIdx.toNat < 255 ∧ (headerState.octet 7).toNat < 128 := by decide

theorem witness_KmHeaderOperations : Instr.mrxHdrErr 0 ∈ [Instr.mrxHdrOk 0, Instr.mrxHdrErr 0] := by decide

theorem witness_StoresOutsideBufferStop :
    (sparseState .vbus 255 [] 0x00).writeIdx = 255 ∧ 41 < (pastHeader 42).header.frameCnt.toNat := by decide

theorem witness_DecodeStepFrame :
    (frameState .kw .decode [0x01, 0x00, 0x01] [0xAA]).selected.isDecode = true := by decide

/-- A VBUS frame in DECODE with the given command and source address. -/
def dispatchState (cmd src : Half) : State :=
  { frameState .vbus .decode [] [] with header := ⟨0, src, 1, cmd, 1, 16⟩ }

theorem witness_VbusDispatchBySourceAddress :
    (dispatchState 0x0200 0).ports.rst = false ∧ (dispatchState 0x0200 0).phase = .decode ∧
      (dispatchState 0x0200 0).protocol = .vbus ∧ (dispatchState 0x0200 0).header.cmd ≠ 0x0100 ∧
      (dispatchState 0x0100 0x1060).header.srcAddr = 0x1060 ∧ (dispatchState 0x0100 0x7E11).header.srcAddr = 0x7E11 ∧
      (dispatchState 0x0100 0x7E21).header.srcAddr = 0x7E21 ∧ (dispatchState 0x0100 0x7E31).header.srcAddr = 0x7E31 ∧
      (dispatchState 0x0100 0x4212).header.cmd = 0x0100 ∧
      (dispatchState 0x0100 0x4212).header.srcAddr ∉ [0x1060, 0x7E11, 0x7E21, 0x7E31] := by decide

theorem witness_DropTouchesNoData :
    (dispatchState 0x0200 0).decodes .vbus ∧ (dispatchState 0x0200 0).header.cmd ≠ 0x0100 :=
  ⟨⟨rfl, rfl, rfl⟩, by decide⟩

theorem witness_SeptetInjectPutsBackBit7 : (3 : Nat) < 4 ∧ ((13 : Nat) < 9 ∨ 9 + 4 ≤ (13 : Nat)) := by decide

/-- The two blocks of R128's example, validated. -/
def s1Decode : State := vbusState (s1Octets ++ [0x7F])

theorem s1Decode_inv : Inv s1Decode := by constructor <;> decide

theorem witness_PresentMeansInsideFrame :
    Inv s1Decode ∧ s1Decode.phase = .decode ∧ s1Decode.protocol = .vbus ∧ s1Decode.present (9 + 6 * 1) = true ∧
      s1Decode.present (9 + 6 * 2) = false :=
  ⟨s1Decode_inv, rfl, rfl, by decide, by decide⟩

theorem witness_KwAndP300Extract : (Instr.decP300, 5) ∈ [(Instr.decKw, 3), (Instr.decP300, 5)] := by decide

theorem witness_KmOtherTouchesNoData :
    (frameState .km .decode (kmOctets 0x20 0xAA) []).decodes .km ∧
      0x1F < ((frameState .km .decode (kmOctets 0x20 0xAA) []).octet 7).toNat ∧
      ((frameState .km .decode (kmOctets 0x1B 0xAA) []).octet 7).toNat < 0x1C ∧
      ((frameState .km .decode [0x68, 0x0E] []).octet 1).toNat < 15 ∧
      (frameState .km .decode [0x68, 0x0F, 0x0F, 0x68, 0xBE] []).octet 4 ≠ 0xBF :=
  ⟨⟨rfl, rfl, rfl⟩, by decide, by decide, by decide, by decide⟩

/-- A buffer of zeros with one octet `v` at index `k`. -/
def oneAt (k : Nat) (v : Byte) (a : Nat) : Byte := if a = k then v else 0

theorem oneAt_ne {k a : Nat} {v w : Byte} (h : a ≠ 0 + k) : oneAt k v a = oneAt k w a := by
  simp [oneAt, show a ≠ k by omega]

/-- Clause (a) of R121: sums 128 and 0 agree modulo 128. -/
theorem witness_CalcCrcLaws_sum :
    ((List.range 2).map fun i => (oneAt 1 0x80 (0 + i)).toNat).sum % 128 =
      ((List.range 0).map fun i => (oneAt 1 0 (0 + i)).toNat).sum % 128 := by decide

/-- Clause (b). -/
theorem witness_CalcCrcLaws_check :
    ((oneAt 2 0x7F (0 + 2)).toNat : Int) % 128 =
      (0x7F - ((List.range 2).map fun i => ((oneAt 2 0x7F (0 + i)).toNat : Int)).sum) % 128 := by decide

/-- Clauses (c). -/
theorem witness_CalcCrcLaws_change :
    1 < 2 ∧ calcCrc (oneAt 1 0x7F) 0 2 = 0 ∧ (∀ a, a ≠ 0 + 1 → oneAt 1 0x7E a = oneAt 1 0x7F a) ∧
      (oneAt 1 0x7E (0 + 1)).toNat % 128 ≠ (oneAt 1 0x7F (0 + 1)).toNat % 128 ∧
      oneAt 1 0x7E (0 + 1) ≠ oneAt 1 0x7F (0 + 1) ∧ (oneAt 1 0x7F (0 + 1)).toNat < 128 ∧
      (oneAt 1 0x7E (0 + 1)).toNat < 128 :=
  ⟨by decide, by decide, fun _ h => oneAt_ne h, by decide, by decide, by decide, by decide⟩

/-- Clause (d): 0x40 and 0x40 cancel against 0 and 0. -/
theorem witness_CalcCrcLaws_cancel :
    (∀ a, a ≠ 0 + 0 → a ≠ 0 + 1 → (if a ≤ 1 then (0x40 : Byte) else 0) = 0) ∧
      ((0x40 : Byte).toNat + (0x40 : Byte).toNat) % 128 = ((0 : Byte).toNat + (0 : Byte).toNat) % 128 :=
  ⟨fun a h0 h1 => if_neg (by omega), by decide⟩

theorem witness_XorAndSumDetectOneChange :
    1 < 2 ∧ (∀ x, x ≠ 0 + 1 → oneAt 1 0x80 x = oneAt 1 0x00 x) ∧ oneAt 1 0x80 (0 + 1) ≠ oneAt 1 0x00 (0 + 1) :=
  ⟨by decide, fun _ h => oneAt_ne h, by decide⟩

/-- The line block of the group `FE FF 64 00` (V-GEN) at indices 9 to 14. -/
def blockState : State :=
  { State.reset with buf := [(9, 0x7E), (10, 0x7F), (11, 0x64), (12, 0x00), (13, 0x03), (14, 0x1B)] }

theorem witness_BuiltBlocksPassAndCarryData :
    ∀ i < 6, blockState.octet (9 + i) = readerOf (vbusBlock 0xFE 0xFF 0x64 0x00) i := by decide

/-- The watchdog one millisecond past its limit. -/
def dueState : State := { frameState .vbus .sync [] [0xAA] with ports := ⟨false, 0, 20001, [0xAA]⟩ }

theorem witness_WatchdogFiresStrictlyAfterLimit :
    dueState.ports.rst = false ∧ dueState.phase = .sync ∧
      20000 < (dueState.ports.nowMs.toNat + 2 ^ 32 - dueState.lastProgressMs.toNat) % 2 ^ 32 := by decide

theorem witness_RearmDecidesWhetherWatchdogRepeats :
    dueState.wdogDue = true ∧ ({ dueState with wdogRearm := false } : State).wdogDue = true := by decide

theorem witness_ErrorLastsOneStep :
    (frameState .km .error [1] []).ports.rst = false ∧ (frameState .km .error [1] []).phase = .error := by decide

theorem witness_BackInSyncWithinTwoSteps :
    dueState.ports.rst = false ∧ (dueState.phase = .sync ∨ dueState.phase = .receive) ∧ dueState.wdogDue = true ∧
      (∃ t, step dueState = .next t ∧ t.ports.rst = false) ∧ s1Decode.ports.rst = false ∧ s1Decode.phase = .decode ∧
      (frameState .km .error [1] []).phase = .error :=
  ⟨rfl, .inl rfl, by decide, ⟨_, rfl, rfl⟩, rfl, rfl, rfl⟩

theorem witness_UnfittingFrameCountNeverCompletes :
    Inv (pastHeader 0) ∧ (pastHeader 0).receives .vbus 0x00 ∧ 11 ≤ (pastHeader 0).writeIdx.toNat ∧
      (pastHeader 0).header.frameCnt = 0 ∧ Inv (pastHeader 42) ∧ (pastHeader 42).receives .vbus 0x00 ∧
      41 < (pastHeader 42).header.frameCnt.toNat :=
  ⟨pastHeader_inv0, ⟨⟨rfl, rfl, by decide, rfl⟩, rfl⟩, by decide, by decide, pastHeader_inv42,
    ⟨⟨rfl, rfl, by decide, rfl⟩, rfl⟩, by decide⟩

/-- A KM frame at its fourth octet, its length octet 249. -/
def kmLong : State := frameState .km .receive [0x68, 0xF9, 0xF9] [0x68]

theorem kmLong_inv : Inv kmLong := by constructor <;> decide

theorem witness_UnfittingLengthNeverCompletes :
    Inv (frameState .kw .receive [0x01] [0xFD]) ∧ (frameState .kw .receive [0x01] [0xFD]).receives .kw 0xFD ∧
      253 ≤ ((frameState .kw .receive [0x01] [0xFD]).seen 1).toNat ∧
      Inv (frameState .p300 .receive [0x05, 0xFD] [0x00]) ∧
      (frameState .p300 .receive [0x05, 0xFD] [0x00]).receives .p300 0x00 ∧
      253 ≤ ((frameState .p300 .receive [0x05, 0xFD] [0x00]).seen 1).toNat ∧
      Inv kmLong ∧ kmLong.receives .km 0x68 ∧ 249 ≤ (kmLong.seen 1).toNat :=
  ⟨by constructor <;> decide, ⟨⟨rfl, rfl, by decide, rfl⟩, rfl⟩, by decide, by constructor <;> decide,
    ⟨⟨rfl, rfl, by decide, rfl⟩, rfl⟩, by decide, kmLong_inv, ⟨⟨rfl, rfl, by decide, rfl⟩, rfl⟩, by decide⟩

theorem witness_WedgeWithoutRearm :
    ({ dueState with wdogRearm := false } : State).wdogRearm = false ∧
      ({ dueState with wdogRearm := false } : State).env = [] ∧ ({ dueState with wdogRearm := false } : State).listens ∧
      ({ dueState with wdogRearm := false } : State).wdogDue = true :=
  ⟨rfl, rfl, ⟨rfl, .inl rfl⟩, by decide⟩

theorem witness_ConsumesExactlyWhenReady : ∃ t, exec kwState.selected kwState = .next t := ⟨_, rfl⟩

theorem witness_ProtocolWrittenOnlyByReset :
    (∃ t, step kwState = .next t) ∧ ∃ t, step { kwState with ports := ⟨true, 2, 7, []⟩ } = .next t :=
  ⟨⟨_, rfl⟩, ⟨_, rfl⟩⟩

theorem witness_LastProgressWriters :
    (∃ t, step kwState = .next t) ∧ (∃ t, step s1Decode = .next t) ∧ ∃ t, step dueState = .next t :=
  ⟨⟨_, rfl⟩, ⟨_, rfl⟩, ⟨_, rfl⟩⟩

theorem witness_FlagWriters : (∃ t, step s1Decode = .next t) ∧ ∃ t, step (frameState .km .error [1] []) = .next t :=
  ⟨⟨_, rfl⟩, ⟨_, rfl⟩⟩

theorem witness_SnapshotWrittenOnlyByDecode :
    (∃ t, step kwState = .next t) ∧ kwState.ports.rst = false ∧ kwState.phase ≠ .decode ∧
      kwState.selected ≠ .decKmStatus ∧ kwState.protocol ≠ .vbus :=
  ⟨⟨_, rfl⟩, by decide⟩

/-- A header of version 2 (R124's example). -/
def discardState : State := frameState .vbus .receive [0x10, 0, 0x21, 0x7E, 0x20, 0, 1, 2, 0x2D, 0] [0]

theorem witness_OnlyLegalTransitions :
    (∃ t, step dueState = .next t ∧ dueState.phase = .sync ∧ t.phase = .error) ∧
      (∃ t, step discardState = .next t ∧ discardState.phase = .receive ∧ t.phase = .sync) :=
  ⟨⟨_, rfl, rfl, rfl⟩, ⟨_, rfl, rfl, rfl⟩⟩

theorem witness_ControlTransferTable : Inv kwState ∧ ∃ t, step kwState = .next t := ⟨kwState_inv, _, rfl⟩

theorem witness_EveryStepKeepsInvariant : Inv s1Decode ∧ ∃ t, step s1Decode = .next t := ⟨s1Decode_inv, _, rfl⟩

theorem witness_InvariantStatesNeverStop : Inv kmLong := kmLong_inv

theorem witness_EveryStepKeepsBufferForm : kwState.buf.wf = true ∧ ∃ t, step kwState = .next t := ⟨by decide, _, rfl⟩

/-- `kwState` with stale octets above `write_idx` and another set of free values. -/
def staleState : State := { kwState with buf := [(0, 0x01), (1, 0x03), (2, 0x77), (9, 0x55)], resets := 4 }

theorem staleState_inv : Inv staleState := by constructor <;> decide

theorem witness_StaleOctetsNeverMatter :
    Inv kwState ∧ Inv staleState ∧ AgreeBelowIndex kwState staleState ∧ kwState ≠ staleState ∧
      ∃ t, step kwState = .next t :=
  ⟨kwState_inv, staleState_inv, ⟨rfl, by decide⟩, by decide, _, rfl⟩

end Sys2Proof.Tests
end

section
/-! PROOFS. Selection by situation: which operations each family holds (30_encoding.md R82), that every selection stays
in its family, and that the selected operation's row condition of R81 holds. -/

namespace Sys2Proof.Machine

variable {s t : State} {b : Byte} {i : Instr} {p : Protocol}

/-! ### The parts of a situation -/

theorem State.presents.rst {q : Phase} (h : s.presents q b) : s.ports.rst = false := h.1
theorem State.presents.phase_eq {q : Phase} (h : s.presents q b) : s.phase = q := h.2.1
theorem State.presents.head {q : Phase} (h : s.presents q b) : s.ports.rxPending.head? = some b := h.2.2.2
theorem State.presents.rxData_eq {q : Phase} (h : s.presents q b) : s.rxData = b := State.rxData_of_head h.head
theorem State.listens.rst (h : s.listens) : s.ports.rst = false := h.1
theorem State.receives.presents (h : s.receives p b) : s.presents .receive b := h.1
theorem State.receives.protocol_eq (h : s.receives p b) : s.protocol = p := h.2

/-! ### The families of operations -/

/-- The SYNC operations under `p`, with the octet `b` presented (R73). -/
def syncOps (p : Protocol) (b : Byte) : List Instr :=
  .syncSkip b :: match p with
    | .vbus => [.syncVbus b]
    | .kw => [.syncKw b]
    | .p300 => [.syncP300 b]
    | .km => [.syncKm b]

/-- The RECEIVE operations under `p`, with the octet `b` presented (R131, R140, R162). -/
def receiveOps (p : Protocol) (b : Byte) : List Instr :=
  match p with
  | .vbus =>
    [.vrxMsb b, .vrxHdrDiscard b, .vrxHdrCrcerr b, .vrxHdrOk b, .vrxStore b, .vrxEndOk b, .vrxEndCrcerr b, .vrxOvf b]
  | .kw => [.krxStore b, .krxEndOk b, .krxEndErr b, .krxOvf b]
  | .p300 => [.prxStore b, .prxEndOk b, .prxEndErr b, .prxOvf b]
  | .km => [.mrxStore b, .mrxHdrOk b, .mrxHdrErr b, .mrxEndOk b, .mrxEndErr b, .mrxOvf b]

/-- The Decode operations under `p` (R82). -/
def decodeOps (p : Protocol) : List Instr :=
  match p with
  | .vbus => [.decVbusDrop, .decVbusVitosolic, .decVbusBx, .decVbusMx, .decVbusGeneric]
  | .kw => [.decKw]
  | .p300 => [.decP300]
  | .km => [.decKmStatus, .decKmOther]

theorem selectSync_mem (p : Protocol) (b : Byte) : selectSync p b ∈ syncOps p b := by
  unfold selectSync
  split
  · cases p <;> simp [syncOps]
  · simp [syncOps]

theorem selectReceive_mem (p : Protocol) (n : Nat) (b : Byte) (c : FrameContext) :
    selectReceive p n b c ∈ receiveOps p b := by
  cases p
  case vbus => simp only [selectReceive, selectVbus]; split_ifs <;> simp [receiveOps]
  case kw => simp only [selectReceive, selectKw]; split_ifs <;> simp [receiveOps]
  case p300 => simp only [selectReceive, selectP300]; split_ifs <;> simp [receiveOps]
  case km => simp only [selectReceive, selectKm]; split_ifs <;> simp [receiveOps]

theorem selectDecode_mem (p : Protocol) (c : FrameContext) : selectDecode p c ∈ decodeOps p := by
  cases p
  case vbus => simp only [selectDecode]; split_ifs <;> simp [decodeOps]
  case kw => simp [selectDecode, decodeOps]
  case p300 => simp [selectDecode, decodeOps]
  case km => simp only [selectDecode]; split_ifs <;> simp [decodeOps]

/-- What is selected, situation by situation (R72). -/
inductive Selected (s : State) : Instr → Prop where
  | reset (h : s.ports.rst = true) : Selected s .reset
  | err (h : s.ports.rst = false) (hp : s.phase = .error) : Selected s .err
  | decode {i : Instr} (h : s.ports.rst = false) (hp : s.phase = .decode) (hi : i ∈ decodeOps s.protocol) :
    Selected s i
  | wdog (h : s.listens) (hw : s.wdogDue = true) : Selected s .wdog
  | idle (h : s.listens) (hw : s.wdogDue = false) (hr : s.ports.rxPending = []) : Selected s .idle
  | sync {i : Instr} {b : Byte} (h : s.presents .sync b) (hi : i ∈ syncOps s.protocol b) : Selected s i
  | receive {i : Instr} {b : Byte} (h : s.presents .receive b) (hi : i ∈ receiveOps s.protocol b) : Selected s i

theorem State.selected_spec (s : State) : Selected s s.selected := by
  obtain h | ⟨h, hp⟩ | ⟨h, hp⟩ | ⟨h, hw⟩ | ⟨h, hw, hr⟩ | ⟨b, h⟩ | ⟨b, h⟩ := s.situation
  · rw [State.selected_of_rst h]; exact .reset h
  · rw [State.selected_of_error h hp]; exact .err h hp
  · rw [State.selected_of_decode h hp]; exact .decode h hp (selectDecode_mem ..)
  · rw [State.selected_of_wdogDue h hw]; exact .wdog h hw
  · rw [State.selected_of_quiet h hw hr]; exact .idle h hw hr
  · rw [State.selected_of_sync h]; exact .sync h (selectSync_mem ..)
  · rw [State.selected_of_receive h]; exact .receive h (selectReceive_mem ..)

/-! ### What the operations of one family have in common -/

/-- The operations that write a header register (R29, R100, R103, R123). -/
def writesHeader : Instr → Bool
  | .reset | .syncVbus _ | .vrxHdrDiscard _ | .vrxHdrCrcerr _ | .vrxHdrOk _ => true
  | _ => false

theorem syncOps_eventOctet (p : Protocol) (b : Byte) : ∀ i ∈ syncOps p b, i.eventOctet = some b := by
  cases p <;> simp [syncOps, Instr.eventOctet]

theorem receiveOps_eventOctet (p : Protocol) (b : Byte) : ∀ i ∈ receiveOps p b, i.eventOctet = some b := by
  cases p <;> simp [receiveOps, Instr.eventOctet]

theorem decodeOps_isDecode (p : Protocol) : ∀ i ∈ decodeOps p, i.isDecode = true := by
  cases p <;> simp [decodeOps, Instr.isDecode, Instr.number]

theorem eventOctet_of_isDecode (h : i.isDecode = true) : i.eventOctet = none := by
  cases i <;> simp_all [Instr.isDecode, Instr.number, Instr.eventOctet]

/-- An operation that consumes an octet is none of the Decode operations (R81, column Consumes). -/
theorem isDecode_of_eventOctet (h : i.eventOctet = some b) : i.isDecode = false := by
  by_contra hd
  rw [eventOctet_of_isDecode (by simpa using hd)] at h
  cases h

theorem reset_ne_of_eventOctet (h : i.eventOctet = some b) : i ≠ .reset := by
  rintro rfl; cases h

theorem reset_ne_of_isDecode (h : i.isDecode = true) : i ≠ .reset := by
  rintro rfl; cases h

theorem phaseAfter_of_isDecode (h : i.isDecode = true) (before : Phase) : phaseAfter i before = .sync := by
  cases i <;> simp_all [Instr.isDecode, Instr.number, phaseAfter]

theorem staysInReceive_of_isDecode (h : i.isDecode = true) : staysInReceive i = false := by
  cases i <;> simp_all [Instr.isDecode, Instr.number, staysInReceive]

theorem syncOps_staysInReceive (p : Protocol) (b : Byte) : ∀ i ∈ syncOps p b, staysInReceive i = false := by
  cases p <;> simp [syncOps, staysInReceive]

/-- A SYNC operation skips its octet or starts a frame (R102 to R106). -/
theorem syncOps_phaseAfter (p : Protocol) (b : Byte) :
    ∀ i ∈ syncOps p b, phaseAfter i .sync = .sync ∨ phaseAfter i .sync = .receive := by
  cases p <;> simp [syncOps, phaseAfter]

/-- The version discard is the one RECEIVE operation that ends in SYNC (R124). -/
theorem receiveOps_phaseAfter_sync (p : Protocol) (b : Byte) :
    ∀ i ∈ receiveOps p b, phaseAfter i .receive = .sync → i = .vrxHdrDiscard b := by
  cases p <;> simp [receiveOps, phaseAfter]

theorem syncOps_writesHeader (hp : p ≠ .vbus) (b : Byte) : ∀ i ∈ syncOps p b, writesHeader i = false := by
  cases p <;> simp [syncOps, writesHeader] at *

theorem receiveOps_writesHeader (hp : p ≠ .vbus) (b : Byte) : ∀ i ∈ receiveOps p b, writesHeader i = false := by
  cases p <;> simp [receiveOps, writesHeader] at *

theorem decodeOps_writesHeader (p : Protocol) : ∀ i ∈ decodeOps p, writesHeader i = false := by
  cases p <;> simp [decodeOps, writesHeader]

/-- The Decode operations of KW, P300 and KM (R82). -/
theorem decodeOps_of_ne_vbus (hp : p ≠ .vbus) :
    ∀ i ∈ decodeOps p, i ∈ [Instr.decKw, .decP300, .decKmStatus, .decKmOther] := by
  cases p <;> simp [decodeOps] at *

/-! ### What is selected, as a fact about the state -/

theorem Selected.eq_reset_iff (h : Selected s i) : i = .reset ↔ s.ports.rst = true := by
  cases h with
  | reset h => simp [h]
  | err h => simp [h]
  | decode h _ hi => simp [h, reset_ne_of_isDecode (decodeOps_isDecode _ _ hi)]
  | wdog h => simp [h.rst]
  | idle h => simp [h.rst]
  | sync h hi => simp [h.rst, reset_ne_of_eventOctet (syncOps_eventOctet _ _ _ hi)]
  | receive h hi => simp [h.rst, reset_ne_of_eventOctet (receiveOps_eventOctet _ _ _ hi)]

/-- A Decode operation is selected exactly in DECODE (R72). -/
theorem Selected.isDecode_iff (h : Selected s i) (hr : s.ports.rst = false) :
    i.isDecode = true ↔ s.phase = .decode := by
  cases h with
  | reset h => simp [h] at hr
  | err _ hp => simp [hp, Instr.isDecode, Instr.number]
  | decode _ hp hi => simp [hp, decodeOps_isDecode _ _ hi]
  | wdog h => obtain ⟨_, hp | hp⟩ := h <;> simp [hp, Instr.isDecode, Instr.number]
  | idle h => obtain ⟨_, hp | hp⟩ := h <;> simp [hp, Instr.isDecode, Instr.number]
  | sync h hi => simp [h.phase_eq, isDecode_of_eventOctet (syncOps_eventOctet _ _ _ hi)]
  | receive h hi => simp [h.phase_eq, isDecode_of_eventOctet (receiveOps_eventOctet _ _ _ hi)]

/-- In DECODE the selected operation is one of the active protocol's (R82). -/
theorem Selected.mem_decodeOps (h : Selected s i) (hr : s.ports.rst = false) (hp : s.phase = .decode) :
    i ∈ decodeOps s.protocol := by
  cases h with
  | reset h => simp [h] at hr
  | decode _ _ hi => exact hi
  | err _ h => simp [h] at hp
  | wdog h | idle h => obtain ⟨_, hq | hq⟩ := h <;> simp [hq] at hp
  | sync h | receive h => simp [h.phase_eq] at hp

theorem State.rxReady_of_presents (h : s.presents .sync b ∨ s.presents .receive b) : s.rxReady = true := by
  obtain ⟨hr, hp, hw, _⟩ | ⟨hr, hp, hw, _⟩ := h <;> simp [State.rxReady, hr, hp, hw]

/-- The selected operation carries an event octet exactly when the handshake takes place (R22, R71). -/
theorem Selected.consumes_iff (h : Selected s i) :
    i.eventOctet.isSome = true ↔ s.rxValid = true ∧ s.rxReady = true := by
  cases h with
  | reset h => simp [State.rxReady, h, Instr.eventOctet]
  | err _ hp => simp [State.rxReady, hp, Instr.eventOctet]
  | decode _ hp hi => simp [State.rxReady, hp, eventOctet_of_isDecode (decodeOps_isDecode _ _ hi)]
  | wdog _ hw => simp [State.rxReady, hw, Instr.eventOctet]
  | idle _ _ hr => simp [State.rxValid, hr, Instr.eventOctet]
  | sync h hi =>
    simp [syncOps_eventOctet _ _ _ hi, State.rxReady_of_presents (.inl h), State.rxValid_of_head h.head]
  | receive h hi =>
    simp [receiveOps_eventOctet _ _ _ hi, State.rxReady_of_presents (.inr h), State.rxValid_of_head h.head]

theorem Selected.receive_of_stays (h : Selected s i) (hs : staysInReceive i = true) : s.phase = .receive := by
  cases h with
  | reset | err | wdog | idle => cases hs
  | decode _ _ hi => simp [staysInReceive_of_isDecode (decodeOps_isDecode _ _ hi)] at hs
  | sync _ hi => simp [syncOps_staysInReceive _ _ _ hi] at hs
  | receive h => exact h.phase_eq

/-- Under a protocol other than VBUS no step but RESET writes a header register (R29). -/
theorem Selected.writesHeader_of_ne_vbus (h : Selected s i) (hr : s.ports.rst = false) (hp : s.protocol ≠ .vbus) :
    writesHeader i = false := by
  cases h with
  | reset h => simp [h] at hr
  | err | wdog | idle => rfl
  | decode _ _ hi => exact decodeOps_writesHeader _ _ hi
  | sync _ hi => exact syncOps_writesHeader hp _ _ hi
  | receive _ hi => exact receiveOps_writesHeader hp _ _ hi

end Sys2Proof.Machine
end

section
/-! PROOFS. The rules about every step: consumption, `protocol`, `last_progress_ms`, the flags, the snapshot, the
transitions of `state` (10_state.md R22, R25, R26, R28, R32, R45). -/

namespace Sys2Proof.Machine

variable {s t : State} {i : Instr}

/-- A step is the effect of the selected operation, then the step boundary. -/
theorem Effect.of_step (h : step s = .next t) : ∃ u, Effect s.selected s u ∧ t = u.boundary := by
  obtain ⟨u, hu, rfl⟩ := exists_exec_of_step h
  exact ⟨u, Effect.of_exec hu, rfl⟩

theorem Effect.phase_eq (e : Effect i s t) (h : Selected s i) : t.phase = phaseAfter i s.phase := by
  rw [e.phase]
  split
  · next hs =>
    rw [h.receive_of_stays hs]
    cases i <;> simp_all [staysInReceive, phaseAfter]
  · rfl

theorem Effect.header_of_not_writesHeader (e : Effect i s t) (hi : writesHeader i = false) : t.header = s.header := by
  rw [e.header]
  cases i <;> simp_all [writesHeader]

theorem SameSnapshot.boundary (h : SameSnapshot s t) : SameSnapshot s t.boundary := by
  simpa [SameSnapshot] using h

/-- Every selected operation but RESET makes a transition of R26. -/
theorem Selected.legalTransition (h : Selected s i) (hr : s.ports.rst = false) :
    legalTransition s.phase (phaseAfter i s.phase) = true := by
  cases h with
  | reset h => simp [h] at hr
  | err _ hp => rw [hp]; rfl
  | decode _ hp hi => rw [hp, phaseAfter_of_isDecode (decodeOps_isDecode _ _ hi)]; rfl
  | wdog h => obtain ⟨_, hp | hp⟩ := h <;> rw [hp] <;> rfl
  | idle h => obtain ⟨_, hp | hp⟩ := h <;> rw [hp] <;> rfl
  | sync h hi => rw [h.phase_eq]; obtain hq | hq := syncOps_phaseAfter _ _ _ hi <;> rw [hq] <;> rfl
  | receive h => rw [h.phase_eq]; cases phaseAfter i .receive <;> rfl

theorem Selected.wdog_of_sync_to_error (h : Selected s i) (hr : s.ports.rst = false) (hp : s.phase = .sync)
    (he : phaseAfter i s.phase = .error) : i = .wdog := by
  cases h with
  | reset h => simp [h] at hr
  | err => simp [phaseAfter] at he
  | decode _ _ hi => simp [phaseAfter_of_isDecode (decodeOps_isDecode _ _ hi)] at he
  | wdog => rfl
  | idle => simp [phaseAfter, hp] at he
  | sync h hi => rw [hp] at he; obtain hq | hq := syncOps_phaseAfter _ _ _ hi <;> simp [hq] at he
  | receive h => simp [h.phase_eq] at hp

theorem Selected.discard_of_receive_to_sync (h : Selected s i) (hr : s.ports.rst = false) (hp : s.phase = .receive)
    (he : phaseAfter i s.phase = .sync) : ∃ b, i = .vrxHdrDiscard b := by
  cases h with
  | reset h => simp [h] at hr
  | err _ h | decode _ h | sync h => simp_all [State.presents]
  | wdog => simp [phaseAfter] at he
  | idle => simp [phaseAfter, hp] at he
  | receive h hi => rw [hp] at he; exact ⟨_, receiveOps_phaseAfter_sync _ _ _ hi he⟩

/-- What a step without reset leaves alone under KW, P300 and KM (R222). -/
theorem Selected.vbus_registers (sel : Selected s i) (hr : s.ports.rst = false) (hne : i ≠ .reset) (e : Effect i s t)
    (hp : s.protocol ≠ .vbus) :
    t.header = s.header ∧ t.errorMask = s.errorMask ∧ t.systemTimeMinutes = s.systemTimeMinutes ∧
      t.heatQuantityWh = s.heatQuantityWh ∧ t.systemVariant = s.systemVariant ∧ t.opHours = s.opHours := by
  by_cases hd : s.phase = .decode
  · exact e.vbusOnly (decodeOps_of_ne_vbus hp _ (sel.mem_decodeOps hr hd))
  · obtain ⟨-, -, -, -, -, -, hmask, htime, hheat, hvariant, hhours, -⟩ :=
      e.snapshot hne (by simpa [hd] using sel.isDecode_iff hr)
    exact ⟨e.header_of_not_writesHeader (sel.writesHeader_of_ne_vbus hr hp), hmask, htime, hheat, hvariant, hhours⟩

/-- Settles O47: the selected operation carries an event octet exactly in a handshake, and consumes it. -/
theorem consumesExactlyWhenReady : Obligations.ConsumesExactlyWhenReady := by
  intro s t h
  rw [(Effect.of_exec h).ports]
  exact if_congr s.selected_spec.consumes_iff rfl rfl

/-- Settles O48: RESET is selected exactly when `rst` is 1, and no other operation writes `protocol`. -/
theorem protocolWrittenOnlyByReset : Obligations.ProtocolWrittenOnlyByReset := by
  intro s t h
  obtain ⟨u, e, rfl⟩ := Effect.of_step h
  rw [State.boundary_protocol, e.protocol]
  exact if_congr s.selected_spec.eq_reset_iff rfl rfl

/-- Settles O49, from the effect of the selected operation. -/
theorem lastProgressWriters : Obligations.LastProgressWriters := by
  intro s t h
  obtain ⟨u, e, rfl⟩ := Effect.of_step h
  rw [State.boundary_lastProgressMs, e.lastProgress]

/-- Settles O50, from the effect of the selected operation. -/
theorem flagWriters : Obligations.FlagWriters := by
  intro s t h
  obtain ⟨u, e, rfl⟩ := Effect.of_step h
  exact ⟨u.boundary_ready.trans e.ready, u.boundary_busOk.trans e.busOk⟩

/-- Settles O51: a Decode operation is selected only in DECODE, and there the one of the active protocol. -/
theorem snapshotWrittenOnlyByDecode : Obligations.SnapshotWrittenOnlyByDecode := by
  intro s t h hr
  obtain ⟨u, e, rfl⟩ := Effect.of_step h
  have sel := s.selected_spec
  have hne : s.selected ≠ .reset := fun hi => by simp [sel.eq_reset_iff.1 hi] at hr
  refine ⟨fun hp => ?_, fun hi => ?_, fun hp => ?_⟩
  · exact (e.snapshot hne (by simpa [hp] using sel.isDecode_iff hr)).boundary
  · rw [State.boundary_km]; exact e.km hne hi
  · simpa using sel.vbus_registers hr hne e hp

/-- Settles O52: the phase after the selected operation is R86's, row by row a transition of R26. -/
theorem onlyLegalTransitions : Obligations.OnlyLegalTransitions := by
  intro s t h hr
  obtain ⟨u, e, rfl⟩ := Effect.of_step h
  have sel := s.selected_spec
  rw [State.boundary_phase, e.phase_eq sel]
  exact ⟨sel.legalTransition hr, sel.wdog_of_sync_to_error hr, sel.discard_of_receive_to_sync hr⟩

/-- Settles O8: every element's reset value stands in `State.afterReset`. -/
theorem resetWritesResetValues : Obligations.ResetWritesResetValues := by
  intro s
  refine ⟨_, exec_reset s, ?_⟩
  simp [State.afterReset, Vector.get_eq_getElem]

end Sys2Proof.Machine
end

section
/-! PROOFS. The selected operation's row condition of 30_encoding.md R81 holds, whatever the situation. -/

namespace Sys2Proof.Machine

variable {s : State} {b : Byte}

theorem rowCondition_selectSync (h : s.presents .sync b) : rowCondition (selectSync s.protocol b) s := by
  unfold selectSync
  split
  · next hv => cases hp : s.protocol <;> simp_all [isSyncValue, rowCondition]
  · next hv => cases hp : s.protocol <;> simp_all [isSyncValue, rowCondition]

theorem msb_eq_getLsbD_seven (b : Byte) : b.msb = b.getLsbD 7 := by
  simp [BitVec.msb_eq_getLsbD_last]

/-- R131's order of tests, with a free index in the buffer. -/
theorem rowCondition_selectVbus (h : s.receives .vbus b) (hlt : s.writeIdx.toNat < 255) :
    rowCondition (selectVbus s.nextLen b s.frameContext) s := by
  have cf := State.contextFacts h.presents
  have hn : s.nextLen ≤ 255 := hlt
  simp only [selectVbus, msb_eq_getLsbD_seven, Bool.not_eq_true', ← Bool.not_eq_true, cf.versionOk, cf.headerCrcOk,
    cf.vbusComplete h.protocol_eq, cf.vbusIntact h.protocol_eq]
  split
  · next h7 => exact ⟨h, h7⟩
  next h7 =>
  rw [Bool.not_eq_true] at h7
  split
  · next h11 =>
    split
    · next hv => exact ⟨h, h7, h11, hv⟩
    next hv =>
    rw [not_not] at hv
    split
    · next hc => exact ⟨h, h7, h11, hv, hc⟩
    · next hc => exact ⟨h, h7, h11, hv, not_not.1 hc⟩
  next h11 =>
  split
  · next hc =>
    split
    · next hi => exact ⟨h, h7, hc.1, hc.2, hi⟩
    · next hi => exact ⟨h, h7, hc.1, hc.2, by simpa using hi⟩
  next hc =>
  split
  · next hfull => exact ⟨h, h7, hfull, fun hl => hc ⟨by rw [hfull]; decide, hl⟩⟩
  · next hfull => exact ⟨h, h7, h11, hc, Nat.lt_of_le_of_ne hn hfull⟩

/-- R140's order of tests. -/
theorem rowCondition_selectKw (h : s.receives .kw b) (hlt : s.writeIdx.toNat < 255) :
    rowCondition (selectKw s.nextLen b s.frameContext) s := by
  have cf := State.contextFacts h.presents
  have hn : s.nextLen ≤ 255 := hlt
  simp only [selectKw, cf.kwpComplete (.inl h.protocol_eq), cf.kwIntact h.protocol_eq]
  split
  · next hc =>
    split
    · next hi => exact ⟨h, hc.1, hc.2, hi⟩
    · next hi => exact ⟨h, hc.1, hc.2, hi⟩
  next hc =>
  split
  · next hfull => exact ⟨h, hfull, fun hl => hc ⟨by rw [hfull]; decide, hl⟩⟩
  · next hfull => exact ⟨h, hc, Nat.lt_of_le_of_ne hn hfull⟩

/-- R140's order of tests. -/
theorem rowCondition_selectP300 (h : s.receives .p300 b) (hlt : s.writeIdx.toNat < 255) :
    rowCondition (selectP300 s.nextLen b s.frameContext) s := by
  have cf := State.contextFacts h.presents
  have hn : s.nextLen ≤ 255 := hlt
  simp only [selectP300, cf.kwpComplete (.inr h.protocol_eq), cf.p300Intact h.protocol_eq]
  split
  · next hc =>
    split
    · next hi => exact ⟨h, hc.1, hc.2, hi⟩
    · next hi => exact ⟨h, hc.1, hc.2, hi⟩
  next hc =>
  split
  · next hfull => exact ⟨h, hfull, fun hl => hc ⟨by rw [hfull]; decide, hl⟩⟩
  · next hfull => exact ⟨h, hc, Nat.lt_of_le_of_ne hn hfull⟩

/-- R162's order of tests. -/
theorem rowCondition_selectKm (h : s.receives .km b) (hlt : s.writeIdx.toNat < 255) :
    rowCondition (selectKm s.nextLen b s.frameContext) s := by
  have cf := State.contextFacts h.presents
  have hn : s.nextLen ≤ 255 := hlt
  simp only [selectKm, cf.kmComplete h.protocol_eq, cf.kmHeaderOk]
  split
  · next h4 =>
    split
    · next hh => exact ⟨h, h4, hh⟩
    · next hh => exact ⟨h, h4, not_and_or.1 hh⟩
  next h4 =>
  split
  · next hc =>
    have hi := cf.kmIntact h.protocol_eq (by omega)
    split
    · next hg => exact ⟨h, hc.1, hc.2, hi.1 hg⟩
    · next hg => exact ⟨h, hc.1, hc.2, fun hgood => hg (hi.2 hgood)⟩
  next hc =>
  split
  · next hfull => exact ⟨h, hfull, fun hl => hc ⟨by rw [hfull]; decide, hl⟩⟩
  · next hfull => exact ⟨h, h4, hc, Nat.lt_of_le_of_ne hn hfull⟩

theorem rowCondition_selectReceive (h : s.presents .receive b) (hlt : s.writeIdx.toNat < 255) :
    rowCondition (selectReceive s.protocol s.nextLen b s.frameContext) s := by
  cases hp : s.protocol
  case vbus => exact rowCondition_selectVbus ⟨h, hp⟩ hlt
  case kw => exact rowCondition_selectKw ⟨h, hp⟩ hlt
  case p300 => exact rowCondition_selectP300 ⟨h, hp⟩ hlt
  case km => exact rowCondition_selectKm ⟨h, hp⟩ hlt

/-- R185's chain for VBUS, R215's test for KM. -/
theorem rowCondition_selectDecode (hr : s.ports.rst = false) (hd : s.phase = .decode) :
    rowCondition (selectDecode s.protocol s.frameContext) s := by
  cases hp : s.protocol
  case vbus =>
    have hdec : s.decodes .vbus := ⟨hr, hd, hp⟩
    show rowCondition (if s.header.cmd ≠ 0x0100 then _ else _) s
    split
    · next hc => exact ⟨hdec, hc⟩
    next hc =>
    rw [not_not] at hc
    split
    · next h1060 => exact ⟨hdec, hc, h1060⟩
    next h1060 =>
    split
    · next hbx => exact ⟨hdec, hc, hbx⟩
    next hbx =>
    obtain ⟨h7e11, h7e21⟩ := not_or.1 hbx
    split
    · next hmx => exact ⟨hdec, hc, hmx⟩
    · next hmx => exact ⟨hdec, hc, h1060, h7e11, h7e21, hmx⟩
  case kw => exact ⟨hr, hd, hp⟩
  case p300 => exact ⟨hr, hd, hp⟩
  case km =>
    show rowCondition (if s.kmStatusRecord = true then .decKmStatus else .decKmOther) s
    split
    · next h => exact ⟨⟨hr, hd, hp⟩, s.kmStatusRecord_iff.1 h⟩
    · next h => exact ⟨⟨hr, hd, hp⟩, fun hs => h (s.kmStatusRecord_iff.2 hs)⟩

/-- The selected operation's row condition of R81 holds; the hypothesis excludes the full buffer in RECEIVE, which no
run reaches (10_state.md R27). -/
theorem State.rowCondition_selected (hlt : s.phase = .receive → s.writeIdx.toNat < 255) :
    rowCondition s.selected s := by
  obtain h | ⟨h, hp⟩ | ⟨h, hp⟩ | ⟨h, hw⟩ | ⟨h, hw, hr⟩ | ⟨b, h⟩ | ⟨b, h⟩ := s.situation
  · rw [State.selected_of_rst h]; exact h
  · rw [State.selected_of_error h hp]; exact ⟨h, hp⟩
  · rw [State.selected_of_decode h hp]; exact rowCondition_selectDecode h hp
  · rw [State.selected_of_wdogDue h hw]; exact ⟨h, hw⟩
  · rw [State.selected_of_quiet h hw hr]; exact ⟨h, hw, hr⟩
  · rw [State.selected_of_sync h]; exact rowCondition_selectSync h
  · rw [State.selected_of_receive h]; exact rowCondition_selectReceive h (hlt h.phase_eq)

end Sys2Proof.Machine
end

section
/-! PROOFS. The register clauses of the invariant: what the snapshot and the header registers hold, in every phase
(10_state.md R29, R34, R36, R38, R39, 45_decode_kw_p300_km.md R222, 60_exceptions.md R254). -/

namespace Sys2Proof.Machine

variable {s t : State} {i : Instr}

/-! ### The clauses -/

/-- The header registers are clear or hold a decoded header (R29). -/
def HeaderShape (h : Header) : Prop :=
  h = Header.zero ∨ (h.frameCnt.toNat < 128 ∧ h.frameLen.toNat = 10 + 6 * h.frameCnt.toNat)

/-- KM temperatures are at most 1275 tenths (R39). -/
def KmRange (v : KmView) : Prop :=
  v.boiler.toNat ≤ 1275 ∧ v.hotWater.toNat ≤ 1275 ∧ v.outdoor.toNat ≤ 1275 ∧ v.setpoint.toNat ≤ 1275 ∧
    v.departure.toNat ≤ 1275

/-- Bit 7 of every pump register is 0 (R34). -/
def PumpRange (v : Vector Byte 32) : Prop := ∀ i : Fin 32, (v.get i).toNat < 128

/-- Operating hours hold 16-bit values, from index 2 on 0 (R38). -/
def HoursRange (v : Vector Word 8) : Prop := ∀ i : Fin 8, (v.get i).toNat < 65536 ∧ (2 ≤ i.val → v.get i = 0)

/-- The clauses of `Inv` that bound the snapshot's values. -/
structure RangesInv (s : State) : Prop where
  km : KmRange s.km
  pump : PumpRange s.pump
  counts : s.tempNum.toNat ≤ 32 ∧ s.pumpNum.toNat ≤ 32 ∧ s.relayNum.toNat ≤ 32
  hours : HoursRange s.opHours

/-- The clauses of `Inv` that hold in every phase and do not speak of the frame. -/
structure RegistersInv (s : State) : Prop where
  ranges : RangesInv s
  headerShape : HeaderShape s.header
  vbusOnly : s.protocol ≠ .vbus →
    s.header = Header.zero ∧ s.errorMask = 0 ∧ s.systemTimeMinutes = 0 ∧ s.heatQuantityWh = 0 ∧
      s.systemVariant = 0 ∧ ∀ i : Fin 8, s.opHours.get i = 0
  kmOnly : s.protocol ≠ .km → s.km = KmView.zero
  flags : s.ready = true → s.busOk = true

theorem Inv.registers (h : Inv s) : RegistersInv s :=
  ⟨⟨h.kmRange, h.pumpRange, h.counts, h.hours⟩, h.headerShape, h.vbusOnly, h.kmOnly, h.flags⟩

/-! ### Writing one register -/

theorem PumpRange.set {v : Vector Byte 32} (h : PumpRange v) (j : Fin 32) {x : Byte} (hx : x.toNat < 128) :
    PumpRange (v.set j.val x j.isLt) := by
  intro i
  rw [Vector.get_eq_getElem, Vector.getElem_set]
  split
  · exact hx
  · exact h i

theorem PumpRange.zero : PumpRange (Vector.replicate 32 0) := by
  intro i; simp [Vector.get_eq_getElem]

theorem HoursRange.set {v : Vector Word 8} (h : HoursRange v) {j : Nat} (hj : j < 2) (x : Half) :
    HoursRange (v.set j (x.setWidth 32)) := by
  intro i
  rw [Vector.get_eq_getElem, Vector.getElem_set]
  split
  · next hi => exact ⟨by have := x.isLt; simp only [BitVec.toNat_setWidth]; omega, fun h2 => by omega⟩
  · exact h i

theorem HoursRange.zero : HoursRange (Vector.replicate 8 0) := by
  intro i; simp [Vector.get_eq_getElem]

theorem State.hoursBlock_range (h : HoursRange s.opHours) (o : Nat) : HoursRange (s.hoursBlock o).opHours := by
  rw [State.hoursBlock_opHours]
  split
  · exact (h.set (by decide) _).set (by decide) _
  · exact h

theorem State.pumps_pumpRange (h : PumpRange s.pump) (o : Nat) (dests : List (Fin 32)) (on : Byte → Bool) :
    PumpRange (s.pumps o dests on).pump :=
  State.pumps_range h

theorem kmPump_lt (on : Bool) : (kmPump on).toNat < 128 := by
  cases on <;> decide

theorem KmRange.kmViewOf (rd : Nat → Byte) (old : KmView) : KmRange (kmViewOf rd old) :=
  ⟨kmTemp_le .., kmTemp_le .., kmTemp_le .., kmTemp_le .., kmTemp_le ..⟩

theorem HeaderShape.headerOf {rd : Nat → Byte} (h : (rd 7).toNat < 128) : HeaderShape (headerOf rd) :=
  .inr ⟨h, headerOf_frameLen h⟩

/-! ### The extractors keep the ranges -/

theorem RangesInv.enterDecode (r : RangesInv s) : RangesInv s.enterDecode := ⟨r.km, r.pump, r.counts, r.hours⟩

theorem RangesInv.leaveDecode (r : RangesInv s) : RangesInv s.leaveDecode := ⟨r.km, r.pump, r.counts, r.hours⟩

theorem RangesInv.decoding {k : State → State} (r : RangesInv (k s.enterDecode)) : RangesInv (s.decoding k) :=
  ⟨r.km, r.pump, r.counts, r.hours⟩

theorem RangesInv.extractVitosolic (r : RangesInv s) : RangesInv s.extractVitosolic where
  km := by simpa using r.km
  pump := by
    simp only [State.extractVitosolic, State.setCounts_pump, State.variantBlock_pump, State.maskAndTimeBlock_pump]
    exact State.pumps_pumpRange (State.pumps_pumpRange (by simpa using r.pump) _ _ _) _ _ _
  counts := by simp
  hours := by simpa using r.hours

theorem RangesInv.extractBx (r : RangesInv s) : RangesInv s.extractBx where
  km := by simpa using r.km
  pump := by
    simp only [State.extractBx, State.setCounts_pump, State.heatBlock_pump, State.hoursBlock_pump]
    exact State.pumps_pumpRange (by simpa using r.pump) _ _ _
  counts := by simp
  hours := by
    simp only [State.extractBx, State.setCounts_opHours, State.heatBlock_opHours]
    exact State.hoursBlock_range (by simpa using r.hours) _

theorem RangesInv.extractMx (r : RangesInv s) : RangesInv s.extractMx where
  km := by simpa using r.km
  pump := by
    simp only [State.extractMx, State.setCounts_pump, State.maskBlock_pump, State.heatBlock_pump,
      State.hoursBlock_pump]
    exact State.pumps_pumpRange (by simpa using r.pump) _ _ _
  counts := by simp
  hours := by
    simp only [State.extractMx, State.setCounts_opHours, State.maskBlock_opHours, State.heatBlock_opHours]
    exact State.hoursBlock_range (by simpa using r.hours) _

theorem RangesInv.extractGeneric (r : RangesInv s) : RangesInv s.extractGeneric where
  km := by simpa using r.km
  pump := by simpa using r.pump
  counts := by simp
  hours := by simpa using r.hours

theorem RangesInv.kwpExtract (r : RangesInv s) (start : Nat) : RangesInv (s.kwpExtract start) where
  km := by simpa using r.km
  pump := PumpRange.zero
  counts := by
    have := kwpCount_le (s.octet 1) start
    refine ⟨?_, by simp [State.kwpExtract], by simp [State.kwpExtract]⟩
    simp only [State.kwpExtract, BitVec.toNat_ofNat]
    omega
  hours := by simpa using r.hours

theorem RangesInv.kmExtract (r : RangesInv s) : RangesInv s.kmExtract where
  km := by
    simp only [State.kmExtract, State.kmMirror, State.setCounts_km, State.setRelay_km, State.setPump_km,
      State.setTemp_km]
    exact KmRange.kmViewOf ..
  pump := by
    simp only [State.kmExtract, State.kmMirror, State.setCounts_pump, State.setRelay_pump, State.setPump_pump,
      State.setTemp_pump]
    exact (r.pump.set _ (kmPump_lt _)).set _ (kmPump_lt _)
  counts := by simp [State.kmExtract, State.kmMirror]
  hours := by simpa using r.hours

theorem RangesInv.of_exec_decode (r : RangesInv s) (hd : i.isDecode = true) (h : exec i s = .next t) :
    RangesInv t := by
  cases i
  case decVbusDrop => exact Host.Outcome.next.inj h ▸ r.enterDecode.leaveDecode
  case decVbusVitosolic => exact Host.Outcome.next.inj h ▸ r.enterDecode.extractVitosolic.decoding
  case decVbusBx => exact Host.Outcome.next.inj h ▸ r.enterDecode.extractBx.decoding
  case decVbusMx => exact Host.Outcome.next.inj h ▸ r.enterDecode.extractMx.decoding
  case decVbusGeneric => exact Host.Outcome.next.inj h ▸ r.enterDecode.extractGeneric.decoding
  case decKw => exact Host.Outcome.next.inj h ▸ (r.enterDecode.kwpExtract 3).decoding
  case decP300 => exact Host.Outcome.next.inj h ▸ (r.enterDecode.kwpExtract 5).decoding
  case decKmStatus => exact Host.Outcome.next.inj h ▸ r.enterDecode.kmExtract.decoding
  case decKmOther => exact Host.Outcome.next.inj h ▸ r.enterDecode.decoding
  all_goals simp [Instr.isDecode, Instr.number] at hd

/-! ### Every operation keeps the register clauses -/

theorem RangesInv.of_sameSnapshot (r : RangesInv s) (h : SameSnapshot s t) : RangesInv t := by
  obtain ⟨-, hpump, -, htn, hpn, hrn, -, -, -, -, hhours, hkm⟩ := h
  exact ⟨hkm ▸ r.km, hpump ▸ r.pump, by rw [htn, hpn, hrn]; exact r.counts, hhours ▸ r.hours⟩

/-- Past the ten octets before it, the eleventh octet of a VBUS frame latches a decoded header (R123). -/
theorem HeaderShape.of_eleventh (h : Inv s) {b : Byte} (hr : s.receives .vbus b) (hn : s.nextLen = 11) :
    HeaderShape (Machine.headerOf (s.storeOctet b).octet) := by
  have h10 : s.writeIdx.toNat = 10 := Nat.succ.inj hn
  apply HeaderShape.headerOf
  rw [State.octet_storeOctet, if_neg (by omega)]
  exact h.sevenBit hr.presents.phase_eq hr.protocol_eq 7 (by omega)

theorem HeaderShape.of_effect (h : Inv s) (row : rowCondition i s) (e : Effect i s t) : HeaderShape t.header := by
  by_cases hw : writesHeader i = true
  · have hh := e.header
    cases i
    case reset => exact .inl hh
    case syncVbus => exact .inl hh
    case vrxHdrDiscard b => obtain ⟨hr, -, hn, -⟩ := row; exact hh ▸ HeaderShape.of_eleventh h hr hn
    case vrxHdrCrcerr b => obtain ⟨hr, -, hn, -⟩ := row; exact hh ▸ HeaderShape.of_eleventh h hr hn
    case vrxHdrOk b => obtain ⟨hr, -, hn, -⟩ := row; exact hh ▸ HeaderShape.of_eleventh h hr hn
    all_goals simp [writesHeader] at hw
  · rw [e.header_of_not_writesHeader (by simpa using hw)]; exact h.headerShape

theorem Effect.flags (e : Effect i s t) (h : s.ready = true → s.busOk = true) : t.ready = true → t.busOk = true := by
  rw [e.ready, e.busOk]
  by_cases hr : i = .reset
  · simp [hr]
  by_cases he : i = .err
  · simp [he]
  by_cases hd : i.isDecode = true
  · simp [hr, he, hd]
  · simpa [hr, he, hd] using h

theorem RegistersInv.afterReset (p : Ports) (w : Bool) (e : List EnvMove) (k : Nat) :
    RegistersInv (State.afterReset p w e k) where
  ranges :=
    ⟨by simp [State.afterReset, KmView.zero, KmRange], PumpRange.zero, by simp [State.afterReset], HoursRange.zero⟩
  headerShape := .inl rfl
  vbusOnly _ := ⟨rfl, rfl, rfl, rfl, rfl, fun i => by simp [State.afterReset, Vector.get_eq_getElem]⟩
  kmOnly _ := rfl
  flags _ := rfl

/-- The ranges after any operation but RESET: only Decode operations write the snapshot (R45). -/
theorem RangesInv.of_exec (r : RangesInv s) (hne : i ≠ .reset) (h : exec i s = .next t) : RangesInv t := by
  by_cases hd : i.isDecode = true
  · exact r.of_exec_decode hd h
  · exact r.of_sameSnapshot ((Effect.of_exec h).snapshot hne (by simpa using hd))

theorem RegistersInv.of_exec (h : Inv s) (sel : Selected s i) (row : rowCondition i s) (hne : i ≠ .reset)
    (hx : exec i s = .next t) : RegistersInv t := by
  have e := Effect.of_exec hx
  have hr : s.ports.rst = false := by simpa [hne] using sel.eq_reset_iff
  have hprot : t.protocol = s.protocol := by rw [e.protocol, if_neg hne]
  refine ⟨h.registers.ranges.of_exec hne hx, HeaderShape.of_effect h row e, fun hp => ?_, fun hp => ?_,
    e.flags h.flags⟩
  · rw [hprot] at hp
    obtain ⟨hheader, hmask, htime, hheat, hvariant, hhours⟩ := sel.vbus_registers hr hne e hp
    rw [hheader, hmask, htime, hheat, hvariant, hhours]
    exact h.vbusOnly hp
  · rw [hprot] at hp
    rw [e.km hne, h.kmOnly hp]
    rintro rfl
    obtain ⟨⟨-, -, hkm⟩, -⟩ := row
    exact hp hkm

end Sys2Proof.Machine
end

section
/-! PROOFS. The frame clauses of the invariant, phase by phase, and the invariant itself: it holds after RESET and
every step keeps it (10_state.md R27, 20_memory.md R50, R58, 30_encoding.md R74). -/

namespace Sys2Proof.Machine

variable {s t : State} {i : Instr} {b : Byte}

/-! ### The clauses, by phase -/

/-- The clauses of `Inv` about a frame being received. -/
structure ReceivingInv (s : State) : Prop where
  index : s.writeIdx.toNat < 255
  started : s.protocol ≠ .vbus → 1 ≤ s.writeIdx.toNat
  stored : ∀ a < s.writeIdx.toNat, (s.buf.read? a).isSome = true
  sevenBit : s.protocol = .vbus → ∀ a < s.writeIdx.toNat, (s.octet a).toNat < 128
  headerVersion : s.protocol = .vbus → 11 ≤ s.writeIdx.toNat → s.header.protoVer = 1

/-- The clauses of `Inv` about a validated frame. -/
structure ValidatedInv (s : State) : Prop where
  stored : ∀ a < s.writeIdx.toNat, (s.buf.read? a).isSome = true
  vbus : s.protocol = .vbus →
    1 ≤ s.header.frameCnt.toNat ∧ s.header.frameCnt.toNat ≤ 41 ∧ s.header.protoVer = 1 ∧
      s.writeIdx.toNat = 9 + 6 * s.header.frameCnt.toNat
  kwp : s.protocol = .kw ∨ s.protocol = .p300 → s.writeIdx.toNat = (s.octet 1).toNat + 3
  km : s.protocol = .km → s.writeIdx.toNat = (s.octet 1).toNat + 7

theorem Inv.receiving (h : Inv s) (hp : s.phase = .receive) : ReceivingInv s :=
  ⟨h.receiveIndex hp, h.receiveStarted hp, h.frameStored (.inl hp), h.sevenBit hp, h.headerVersion hp⟩

theorem Inv.of_clauses (registers : RegistersInv s) (bufWf : s.buf.wf = true)
    (sync : s.phase = .sync → s.writeIdx = 0) (receive : s.phase = .receive → ReceivingInv s)
    (decode : s.phase = .decode → ValidatedInv s) : Inv s where
  bufWf := bufWf
  syncIndex := sync
  receiveIndex hp := (receive hp).index
  receiveStarted hp := (receive hp).started
  frameStored hp := hp.elim (fun hp => (receive hp).stored) (fun hp => (decode hp).stored)
  sevenBit hp := (receive hp).sevenBit
  headerShape := registers.headerShape
  headerVersion hp := (receive hp).headerVersion
  decodeVbus hp := (decode hp).vbus
  decodeKwp hp := (decode hp).kwp
  decodeKm hp := (decode hp).km
  vbusOnly := registers.vbusOnly
  kmOnly := registers.kmOnly
  kmRange := registers.ranges.km
  pumpRange := registers.ranges.pump
  counts := registers.ranges.counts
  hours := registers.ranges.hours
  flags := registers.flags

/-- The inputs and the environment's moves are no part of the invariant. -/
theorem Inv.of_inputs (h : Inv s) (p : Ports) (e : List EnvMove) : Inv { s with ports := p, env := e } :=
  .of_clauses ⟨⟨h.kmRange, h.pumpRange, h.counts, h.hours⟩, h.headerShape, h.vbusOnly, h.kmOnly, h.flags⟩ h.bufWf
    h.syncIndex
    (fun hp => ⟨h.receiveIndex hp, h.receiveStarted hp, h.frameStored (.inl hp), h.sevenBit hp, h.headerVersion hp⟩)
    (fun hp => ⟨h.frameStored (.inr hp), h.decodeVbus hp, h.decodeKwp hp, h.decodeKm hp⟩)

theorem Inv.boundary (h : Inv s) : Inv s.boundary := by
  unfold State.boundary
  split
  · exact h
  · exact h.of_inputs ..

/-- The state after RESET has the invariant, whatever the inputs (R42). -/
theorem Inv.afterReset (p : Ports) (w : Bool) (e : List EnvMove) (k : Nat) : Inv (State.afterReset p w e k) :=
  .of_clauses (.afterReset p w e k) rfl (fun _ => rfl) nofun nofun

/-! ### The octet of this step appended to the frame -/

/-- From `s` to `t` the presented octet was appended at `write_idx` (R27); `s.seen` is the buffer that the selection
conditions read. -/
structure Appended (s t : State) : Prop where
  index : t.writeIdx.toNat = s.nextLen
  read : ∀ a, t.buf.read? a = if a = s.writeIdx.toNat then some s.rxData else s.buf.read? a
  resets : t.resets = s.resets

theorem Appended.octet (h : Appended s t) (a : Nat) : t.octet a = s.seen a := by
  unfold State.seen State.octet
  rw [h.read, h.resets]
  split <;> rfl

theorem Appended.stored (h : Appended s t) (hs : ∀ a < s.writeIdx.toNat, (s.buf.read? a).isSome = true) :
    ∀ a < t.writeIdx.toNat, (t.buf.read? a).isSome = true := by
  intro a ha
  rw [h.index, State.nextLen] at ha
  rw [h.read]
  split
  · rfl
  · exact hs a (by omega)

theorem Appended.of_storeOctet (hlt : s.writeIdx.toNat < 255) (hb : s.rxData = b) :
    Appended s (s.consume.storeOctet b) := by
  subst hb
  exact ⟨State.storeOctet_index _ hlt, fun a => FrameBuffer.read?_write .., rfl⟩

/-- Phase and header do not matter to what was appended. -/
theorem Appended.with_phase (h : Appended s t) (p : Phase) : Appended s { t with phase := p } :=
  ⟨h.index, h.read, h.resets⟩

/-- VRX.HDR.OK writes 11, which is the index after the eleventh octet (R126). -/
theorem Appended.with_header (h : Appended s t) (hn : s.nextLen = 11) :
    Appended s { t.decodeHeader with writeIdx := 11 } :=
  ⟨hn.symm, h.read, h.resets⟩

/-- MRX.HDR.OK writes indices 3 and 4, which are `write_idx` and the next one at the fourth octet (R164). -/
theorem Appended.of_storeFourth (hn : s.nextLen = 4) (hb : s.rxData = b) : Appended s (s.consume.storeFourth b) := by
  have h3 : s.writeIdx.toNat = 3 := Nat.succ.inj hn
  subst hb
  exact ⟨hn.symm, fun a => by rw [h3]; exact FrameBuffer.read?_write .., rfl⟩

/-! ### In RECEIVE afterwards -/

/-- One more octet of the frame, with the buffer not yet full. -/
theorem ReceivingInv.of_appended (h : ReceivingInv s) (a : Appended s t) (hlt : s.nextLen < 255)
    (hprot : t.protocol = s.protocol) (h7 : s.protocol = .vbus → s.rxData.toNat < 128)
    (hver : s.protocol = .vbus → 11 ≤ s.nextLen → t.header.protoVer = 1) : ReceivingInv t where
  index := a.index ▸ hlt
  started _ := by rw [a.index]; exact Nat.le_add_left ..
  stored := a.stored h.stored
  sevenBit hp k hk := by
    rw [hprot] at hp
    rw [a.index, State.nextLen] at hk
    rw [a.octet, State.seen]
    split
    · exact h7 hp
    · exact h.sevenBit hp k (by omega)
  headerVersion hp hk := hver (hprot ▸ hp) (a.index ▸ hk)

/-- The same under KW, P300 and KM, where no VBUS clause applies. -/
theorem ReceivingInv.of_appended_other (h : ReceivingInv s) (a : Appended s t) (hlt : s.nextLen < 255)
    (hprot : t.protocol = s.protocol) (hp : s.protocol ≠ .vbus) : ReceivingInv t :=
  h.of_appended a hlt hprot (fun hv => absurd hv hp) (fun hv => absurd hv hp)

/-- A first octet stored at index 0 (R104 to R106). -/
theorem ReceivingInv.startFrame (hp : s.protocol ≠ .vbus) (b : Byte) : ReceivingInv (s.startFrame b) where
  index := by simp
  started _ := by simp
  stored a ha := by
    have h0 : a = 0 := by simpa using ha
    rw [h0, State.startFrame_buf, FrameBuffer.read?_write_self]; rfl
  sevenBit hv := absurd hv hp
  headerVersion hv := absurd hv hp

theorem toNat_lt_of_bit7 (h : b.getLsbD 7 = false) : b.toNat < 128 := by
  have hm : b.msb = false := (msb_eq_getLsbD_seven b).trans h
  exact BitVec.toNat_lt_of_msb_false hm

theorem syncOps_phaseAfter_receive (p : Protocol) (b : Byte) :
    ∀ i ∈ syncOps p b, phaseAfter i .sync = .receive →
      i = .syncVbus b ∨ (p ≠ .vbus ∧ i ∈ [Instr.syncKw b, .syncP300 b, .syncKm b]) := by
  cases p <;> simp [syncOps, phaseAfter]

/-- A frame without an octet yet: VBUS does not store its sync octet (R103). -/
theorem ReceivingInv.of_empty (hv : s.protocol = .vbus) (h0 : s.writeIdx = 0) : ReceivingInv s where
  index := by simp [h0]
  started hp := absurd hv hp
  stored := by simp [h0]
  sevenBit := by simp [h0]
  headerVersion := by simp [h0]

theorem ReceivingInv.of_sync (row : rowCondition i s) (hi : i ∈ syncOps s.protocol b)
    (hp : phaseAfter i .sync = .receive) (hx : exec i s = .next t) : ReceivingInv t := by
  obtain rfl | ⟨hv, hi⟩ := syncOps_phaseAfter_receive _ _ _ hi hp
  · obtain ⟨-, hv, -⟩ := row
    exact Host.Outcome.next.inj hx ▸ ReceivingInv.of_empty hv rfl
  · have ht : s.consume.startFrame b = t := by
      fin_cases hi <;> exact Host.Outcome.next.inj hx
    exact ht ▸ ReceivingInv.startFrame (s := s.consume) hv b

theorem receiveOps_phaseAfter_receive (p : Protocol) (b : Byte) :
    ∀ i ∈ receiveOps p b, phaseAfter i .receive = .receive →
      i = .vrxStore b ∨ i = .vrxHdrOk b ∨ i = .krxStore b ∨ i = .prxStore b ∨ i = .mrxStore b ∨ i = .mrxHdrOk b := by
  cases p <;> simp [receiveOps, phaseAfter]

/-- The first 11 octets of VBUS are followed by the header check, so a stored octet past them finds version 1 latched
(R124). -/
theorem ReceivingInv.of_vrxStore (h : ReceivingInv s) (row : rowCondition (.vrxStore b) s)
    (hx : exec (.vrxStore b) s = .next t) : ReceivingInv t := by
  obtain ⟨hr, h7, h11, -, hlt⟩ := row
  obtain ⟨hi, rfl⟩ := State.storing_eq_next.1 hx
  have hd := hr.presents.rxData_eq
  refine h.of_appended (Appended.of_storeOctet hi hd) hlt rfl (fun _ => hd ▸ toNat_lt_of_bit7 h7) fun hp hn => ?_
  have hpast : 11 ≤ s.writeIdx.toNat := by unfold State.nextLen at *; omega
  exact h.headerVersion hp hpast

/-- The header check latches version 1 (R126). -/
theorem ReceivingInv.of_vrxHdrOk (h : ReceivingInv s) (row : rowCondition (.vrxHdrOk b) s)
    (hx : exec (.vrxHdrOk b) s = .next t) : ReceivingInv t := by
  obtain ⟨hr, h7, h11, hv, -⟩ := row
  rw [exec_vrxHdrOk] at hx
  obtain ⟨hi, rfl⟩ := State.storing_eq_next.1 hx
  have hd := hr.presents.rxData_eq
  have ha := Appended.of_storeOctet hi hd
  refine h.of_appended (ha.with_header h11) (by omega) rfl (fun _ => hd ▸ toNat_lt_of_bit7 h7) fun _ _ => ?_
  show ((s.consume.storeOctet b).octet 4 >>> 4).setWidth 4 = (1 : BitVec 4)
  rw [ha.octet, hv]
  rfl

/-- The plain store of KW, P300 and KM (R141, R145, R163). -/
theorem ReceivingInv.of_store_other (h : ReceivingInv s) {q : Protocol} (hr : s.receives q b) (hq : q ≠ .vbus)
    (hlt : s.nextLen < 255) (hx : s.storing b id = .next t) : ReceivingInv t := by
  obtain ⟨hi, rfl⟩ := State.storing_eq_next.1 hx
  exact h.of_appended_other (.of_storeOctet hi hr.presents.rxData_eq) hlt rfl (hr.protocol_eq ▸ hq)

theorem ReceivingInv.of_mrxHdrOk (h : ReceivingInv s) (row : rowCondition (.mrxHdrOk b) s)
    (hx : exec (.mrxHdrOk b) s = .next t) : ReceivingInv t := by
  obtain ⟨hr, h4, -⟩ := row
  obtain rfl := Host.Outcome.next.inj hx
  exact h.of_appended_other (.of_storeFourth h4 hr.presents.rxData_eq) (by omega) rfl (by simp [hr.protocol_eq])

theorem ReceivingInv.of_receive (h : ReceivingInv s) (row : rowCondition i s) (hi : i ∈ receiveOps s.protocol b)
    (hp : phaseAfter i .receive = .receive) (hx : exec i s = .next t) : ReceivingInv t := by
  obtain rfl | rfl | rfl | rfl | rfl | rfl := receiveOps_phaseAfter_receive _ _ _ hi hp
  · exact h.of_vrxStore row hx
  · exact h.of_vrxHdrOk row hx
  · obtain ⟨hr, -, hlt⟩ := row
    exact h.of_store_other hr nofun hlt hx
  · obtain ⟨hr, -, hlt⟩ := row
    exact h.of_store_other hr nofun hlt hx
  · obtain ⟨hr, -, -, hlt⟩ := row
    exact h.of_store_other hr nofun hlt hx
  · exact h.of_mrxHdrOk row hx

/-! ### In DECODE afterwards -/

theorem receiveOps_phaseAfter_decode (p : Protocol) (b : Byte) :
    ∀ i ∈ receiveOps p b, phaseAfter i .receive = .decode →
      i = .vrxEndOk b ∨ i = .krxEndOk b ∨ i = .prxEndOk b ∨ i = .mrxEndOk b := by
  cases p <;> simp [receiveOps, phaseAfter]

/-- An END.OK operation appends its octet and enters DECODE. -/
theorem Appended.of_endOk (hr : s.presents .receive b)
    (hx : s.storing b (fun t => { t with phase := .decode }) = .next t) :
    Appended s t ∧ t.protocol = s.protocol ∧ t.header = s.header := by
  obtain ⟨hlt, rfl⟩ := State.storing_eq_next.1 hx
  exact ⟨(Appended.of_storeOctet hlt hr.rxData_eq).with_phase .decode, rfl, rfl⟩

/-- The announced length 10 + 6 * frame_cnt, met by an index below 255, leaves 1 to 41 blocks (R74, R132). -/
theorem ValidatedInv.of_vrxEndOk (h : Inv s) (row : rowCondition (.vrxEndOk b) s)
    (hx : exec (.vrxEndOk b) s = .next t) : ValidatedInv t := by
  obtain ⟨hr, -, h11, hlen, -⟩ := row
  have f := h.receiving hr.presents.phase_eq
  obtain ⟨ha, hprot, hheader⟩ := Appended.of_endOk hr.presents (next_of_guard hx)
  have hidx : s.nextLen = s.writeIdx.toNat + 1 := rfl
  have hlt := f.index
  have hshape : s.header.frameLen.toNat = 10 + 6 * s.header.frameCnt.toNat := by
    obtain hz | ⟨-, hl⟩ := h.headerShape
    · have h0 : s.header.frameLen.toNat = 0 := by rw [hz]; rfl
      omega
    · exact hl
  refine ⟨ha.stored f.stored, fun _ => ?_, by simp [hprot, hr.protocol_eq], by simp [hprot, hr.protocol_eq]⟩
  rw [hheader, ha.index]
  exact ⟨by omega, by omega, f.headerVersion hr.protocol_eq (by omega), by omega⟩

/-- The length octet of KW and P300 (R142, R146). -/
theorem ValidatedInv.of_kwp (f : ReceivingInv s) {q : Protocol} (hr : s.receives q b) (hq : q = .kw ∨ q = .p300)
    (hlen : s.nextLen = (s.seen 1).toNat + 3)
    (hx : s.storing b (fun t => { t with phase := .decode }) = .next t) : ValidatedInv t := by
  obtain ⟨ha, hprot, -⟩ := Appended.of_endOk hr.presents hx
  rw [hr.protocol_eq] at hprot
  exact {
    stored := ha.stored f.stored
    vbus := by obtain rfl | rfl := hq <;> simp [hprot]
    kwp := fun _ => by rw [ha.index, ha.octet, hlen]
    km := by obtain rfl | rfl := hq <;> simp [hprot] }

/-- The length octet of KM (R166). -/
theorem ValidatedInv.of_mrxEndOk (f : ReceivingInv s) (row : rowCondition (.mrxEndOk b) s)
    (hx : exec (.mrxEndOk b) s = .next t) : ValidatedInv t := by
  obtain ⟨hr, -, hlen, -⟩ := row
  obtain ⟨ha, hprot, -⟩ := Appended.of_endOk hr.presents hx
  rw [hr.protocol_eq] at hprot
  exact {
    stored := ha.stored f.stored
    vbus := by simp [hprot]
    kwp := by simp [hprot]
    km := fun _ => by rw [ha.index, ha.octet, hlen] }

theorem ValidatedInv.of_receive (h : Inv s) (hs : s.phase = .receive) (row : rowCondition i s)
    (hi : i ∈ receiveOps s.protocol b) (hp : phaseAfter i .receive = .decode) (hx : exec i s = .next t) :
    ValidatedInv t := by
  have f := h.receiving hs
  obtain rfl | rfl | rfl | rfl := receiveOps_phaseAfter_decode _ _ _ hi hp
  · exact .of_vrxEndOk h row hx
  · obtain ⟨hr, -, hlen, -⟩ := row
    exact .of_kwp f hr (.inl rfl) hlen hx
  · obtain ⟨hr, -, hlen, -⟩ := row
    exact .of_kwp f hr (.inr rfl) hlen hx
  · exact .of_mrxEndOk f row hx

/-! ### In SYNC afterwards -/

theorem writeIdx_of_exec_decode (hd : i.isDecode = true) (hx : exec i s = .next t) : t.writeIdx = 0 := by
  cases i
  case decVbusDrop | decVbusVitosolic | decVbusBx | decVbusMx | decVbusGeneric | decKw | decP300 | decKmStatus |
      decKmOther => exact Host.Outcome.next.inj hx ▸ rfl
  all_goals simp [Instr.isDecode, Instr.number] at hd

theorem syncOps_phaseAfter_sync (p : Protocol) (b : Byte) :
    ∀ i ∈ syncOps p b, phaseAfter i .sync = .sync → i = .syncSkip b := by
  cases p <;> simp [syncOps, phaseAfter]

/-- I3 (R27): whatever leads to SYNC clears the index or finds it clear. -/
theorem Inv.writeIdx_of_sync (h : Inv s) (sel : Selected s i) (hne : i ≠ .reset) (hx : exec i s = .next t)
    (hp : phaseAfter i s.phase = .sync) : t.writeIdx = 0 := by
  cases sel with
  | reset => exact absurd rfl hne
  | err => exact Host.Outcome.next.inj hx ▸ rfl
  | decode _ _ hi => exact writeIdx_of_exec_decode (decodeOps_isDecode _ _ hi) hx
  | wdog => simp [phaseAfter] at hp
  | idle => exact Host.Outcome.next.inj hx ▸ h.syncIndex hp
  | sync hs hi =>
    rw [hs.phase_eq] at hp
    obtain rfl := syncOps_phaseAfter_sync _ _ _ hi hp
    exact Host.Outcome.next.inj hx ▸ h.syncIndex hs.phase_eq
  | receive hs hi =>
    rw [hs.phase_eq] at hp
    obtain rfl := receiveOps_phaseAfter_sync _ _ _ hi hp
    rw [exec_vrxHdrDiscard] at hx
    obtain ⟨-, rfl⟩ := State.storing_eq_next.1 hx
    rfl

/-! ### The invariant -/

theorem Inv.receiving_after (h : Inv s) (sel : Selected s i) (row : rowCondition i s) (hx : exec i s = .next t)
    (hp : phaseAfter i s.phase = .receive) : ReceivingInv t := by
  cases sel with
  | reset | err | wdog => simp [phaseAfter] at hp
  | decode _ _ hi => simp [phaseAfter_of_isDecode (decodeOps_isDecode _ _ hi)] at hp
  | idle => exact Host.Outcome.next.inj hx ▸ h.receiving hp
  | sync hs hi => exact .of_sync row hi (hs.phase_eq ▸ hp) hx
  | receive hs hi => exact (h.receiving hs.phase_eq).of_receive row hi (hs.phase_eq ▸ hp) hx

theorem Inv.validated_after (h : Inv s) (sel : Selected s i) (row : rowCondition i s) (hx : exec i s = .next t)
    (hp : phaseAfter i s.phase = .decode) : ValidatedInv t := by
  cases sel with
  | reset | err | wdog => simp [phaseAfter] at hp
  | decode _ _ hi => simp [phaseAfter_of_isDecode (decodeOps_isDecode _ _ hi)] at hp
  | idle hl =>
    have hd : s.phase = .decode := hp
    obtain ⟨-, hq | hq⟩ := hl <;> simp [hq] at hd
  | sync hs hi => rw [hs.phase_eq] at hp; obtain hq | hq := syncOps_phaseAfter _ _ _ hi <;> simp [hq] at hp
  | receive hs hi => exact .of_receive h hs.phase_eq row hi (hs.phase_eq ▸ hp) hx

/-- The selected operation keeps the invariant. -/
theorem Inv.of_exec (h : Inv s) (sel : Selected s i) (row : rowCondition i s) (hx : exec i s = .next t) : Inv t := by
  by_cases hne : i = .reset
  · subst hne
    exact Host.Outcome.next.inj hx ▸ Inv.afterReset ..
  have e := Effect.of_exec hx
  refine .of_clauses (.of_exec h sel row hne hx) (e.bufWf h.bufWf) ?_ ?_ ?_ <;> rw [e.phase_eq sel]
  · exact h.writeIdx_of_sync sel hne hx
  · exact h.receiving_after sel row hx
  · exact h.validated_after sel row hx

/-- Settles O56: the selected operation keeps the invariant, and the step boundary touches none of its clauses. -/
theorem everyStepKeepsInvariant : Obligations.EveryStepKeepsInvariant := by
  intro s t h hstep
  obtain ⟨u, hu, rfl⟩ := exists_exec_of_step hstep
  exact (h.of_exec s.selected_spec (State.rowCondition_selected h.receiveIndex) hu).boundary

/-- Settles O55: `State.reset` is the state after one RESET. -/
theorem resetHasInvariant : Obligations.ResetHasInvariant :=
  Inv.afterReset ..

end Sys2Proof.Machine
end

section
/-! PROOFS. The frame buffer as a list: every step keeps its canonical form, and a store outside it stops the machine
(20_memory.md R50, R51, log entry 7). -/

namespace Sys2Proof.Machine

/-- Settles O54: the selected operation keeps the form, and the step boundary leaves the buffer alone. -/
theorem everyStepKeepsBufferForm : Obligations.EveryStepKeepsBufferForm := by
  intro s t hwf hstep
  obtain ⟨u, e, rfl⟩ := Effect.of_step hstep
  rw [State.boundary_buf]
  exact e.bufWf hwf

/-- Settles O21: the stores fault by their own index, the two VBUS END operations also by their block range. -/
theorem storesOutsideBufferStop : Obligations.StoresOutsideBufferStop := by
  intro s b
  refine ⟨fun hfull => ?_, fun hcnt => ?_⟩
  · have full : ∀ k, s.storing b k = .fault .bufferIndex := fun k => State.storing_full (by simp [hfull])
    simp [exec_vrxStore, exec_krxStore, exec_prxStore, exec_mrxStore, exec_vrxEndOk, exec_krxEndOk, exec_prxEndOk,
      exec_mrxEndOk, exec_vrxEndCrcerr, exec_krxEndErr, exec_prxEndErr, exec_mrxEndErr, exec_vrxHdrDiscard,
      exec_vrxHdrCrcerr, exec_vrxHdrOk, full]
  · have outside : ¬ s.blocksInside = true := fun h => by
      have inside : 9 + 6 * s.header.frameCnt.toNat ≤ 255 := of_decide_eq_true h
      omega
    simp [exec_vrxEndOk, exec_vrxEndCrcerr, outside]

end Sys2Proof.Machine
end

section
/-! PROOFS. Agreement of two states below an index of the frame buffer, and what each shared operation, block form and
extractor does with it (20_memory.md R58, R59). -/

namespace Sys2Proof.Machine

variable {s t : State} {n m : Nat} {f : State → State}

/-! ### Agreement below an index -/

/-- The two states agree on everything but the octets from index `n` on and the free values behind them. -/
def AgreeBelow (n : Nat) (s t : State) : Prop :=
  t = { s with buf := t.buf, resets := t.resets } ∧ ∀ a < n, t.octet a = s.octet a

theorem agreeBelowIndex_iff : AgreeBelowIndex s t ↔ AgreeBelow s.writeIdx.toNat s t := Iff.rfl

theorem AgreeBelow.octet (h : AgreeBelow n s t) {a : Nat} (ha : a < n) : t.octet a = s.octet a := h.2 a ha

theorem AgreeBelow.exists_buffer (h : AgreeBelow n s t) : ∃ m k, t = { s with buf := m, resets := k } :=
  ⟨_, _, h.1⟩

/-- What does not look at the buffer is the same on both sides. -/
theorem AgreeBelow.same {α : Type} (h : AgreeBelow n s t) (g : State → α)
    (hg : ∀ s m k, g { s with buf := m, resets := k } = g s) : g t = g s := by
  obtain ⟨m, k, rfl⟩ := h.exists_buffer
  exact hg s m k

theorem AgreeBelow.header_eq (h : AgreeBelow n s t) : t.header = s.header := h.same (·.header) fun _ _ _ => rfl
theorem AgreeBelow.protocol_eq (h : AgreeBelow n s t) : t.protocol = s.protocol := h.same (·.protocol) fun _ _ _ => rfl
theorem AgreeBelow.writeIdx_eq (h : AgreeBelow n s t) : t.writeIdx = s.writeIdx := h.same (·.writeIdx) fun _ _ _ => rfl
theorem AgreeBelow.rxData_eq (h : AgreeBelow n s t) : t.rxData = s.rxData := h.same State.rxData fun _ _ _ => rfl
theorem AgreeBelow.nextLen_eq (h : AgreeBelow n s t) : t.nextLen = s.nextLen := h.same State.nextLen fun _ _ _ => rfl

theorem AgreeBelow.mono (h : AgreeBelow n s t) (hm : m ≤ n) : AgreeBelow m s t :=
  ⟨h.1, fun _ ha => h.octet (Nat.lt_of_lt_of_le ha hm)⟩

theorem AgreeBelow.atIndex (h : AgreeBelow n s t) (hn : s.writeIdx.toNat ≤ n) : AgreeBelowIndex s t :=
  agreeBelowIndex_iff.2 (h.mono hn)

/-- The update neither reads nor writes the frame buffer. -/
def BufferFree (f : State → State) : Prop :=
  ∀ s m k, f { s with buf := m, resets := k } = { f s with buf := m, resets := k }

theorem BufferFree.octet (hf : BufferFree f) (s : State) (a : Nat) : (f s).octet a = s.octet a := by
  have keeps : f s = { f s with buf := s.buf, resets := s.resets } := hf s s.buf s.resets
  exact State.octet_congr (congrArg State.buf keeps) (congrArg State.resets keeps) a

theorem AgreeBelow.map (h : AgreeBelow n s t) (hf : BufferFree f) : AgreeBelow n (f s) (f t) := by
  refine ⟨?_, fun a ha => ?_⟩
  · obtain ⟨m, k, rfl⟩ := h.exists_buffer
    rw [hf]
  · rw [hf.octet, hf.octet, h.octet ha]

/-- Storing the same octet on both sides settles its index. -/
theorem AgreeBelow.setOctet (h : AgreeBelow n s t) {a : Nat} (x : Byte) (hm : ∀ c < m, c ≠ a → c < n) :
    AgreeBelow m (s.setOctet a x) (t.setOctet a x) := by
  refine ⟨?_, fun c hc => ?_⟩
  · obtain ⟨m, k, rfl⟩ := h.exists_buffer
    rfl
  · rw [State.octet_setOctet, State.octet_setOctet]
    split
    · rfl
    · next hne => exact h.octet (hm c hc hne)

theorem AgreeBelow.le16 (h : AgreeBelow n s t) {a : Nat} (ha : a + 1 < n) : le16 t.octet a = le16 s.octet a := by
  simp only [Machine.le16, h.octet ha, h.octet (Nat.lt_of_succ_lt ha)]

theorem AgreeBelow.be16 (h : AgreeBelow n s t) {a : Nat} (ha : a + 1 < n) : be16 t.octet a = be16 s.octet a := by
  simp only [Machine.be16, h.octet ha, h.octet (Nat.lt_of_succ_lt ha)]

/-! ### At `write_idx` -/

theorem AgreeBelowIndex.below (h : AgreeBelowIndex s t) : AgreeBelow s.writeIdx.toNat s t := agreeBelowIndex_iff.1 h

theorem AgreeBelowIndex.map (h : AgreeBelowIndex s t) (hf : BufferFree f)
    (hidx : (f s).writeIdx.toNat ≤ s.writeIdx.toNat) : AgreeBelowIndex (f s) (f t) :=
  (h.below.map hf).atIndex hidx

theorem AgreeBelowIndex.consume (h : AgreeBelowIndex s t) : AgreeBelowIndex s.consume t.consume :=
  h.map (fun _ _ _ => rfl) (Nat.le_refl _)

theorem AgreeBelowIndex.with_phase (h : AgreeBelowIndex s t) (p : Phase) :
    AgreeBelowIndex { s with phase := p } { t with phase := p } :=
  h.map (f := fun u => { u with phase := p }) (fun _ _ _ => rfl) (Nat.le_refl _)

theorem AgreeBelowIndex.boundary (h : AgreeBelowIndex s t) : AgreeBelowIndex s.boundary t.boundary := by
  refine h.map (fun s m k => ?_) (by simp)
  obtain he | ⟨e, rest, he⟩ : s.env = [] ∨ ∃ e rest, s.env = e :: rest := by cases s.env <;> simp
  · rw [State.boundary_of_nil he, State.boundary_of_nil (s := { s with buf := m, resets := k }) he]
  · rw [State.boundary_of_cons he, State.boundary_of_cons (s := { s with buf := m, resets := k }) he]

/-- A store at `write_idx` extends the agreement by the index stored to (10_state.md R27). -/
theorem AgreeBelowIndex.storeOctet (h : AgreeBelowIndex s t) (b : Byte) :
    AgreeBelowIndex (s.storeOctet b) (t.storeOctet b) := by
  have stored : AgreeBelow (s.writeIdx.toNat + 1) (s.setOctet s.writeIdx.toNat b) (t.setOctet s.writeIdx.toNat b) :=
    h.below.setOctet b (by omega)
  have hidx : (s.writeIdx + 1).toNat ≤ s.writeIdx.toNat + 1 := by bv_omega
  simp only [State.storeOctet, h.below.writeIdx_eq]
  exact (stored.map (f := fun u => { u with writeIdx := s.writeIdx + 1 }) fun _ _ _ => rfl).atIndex hidx

/-- The first octet of a frame stands below every later reader (R104 to R106). -/
theorem AgreeBelowIndex.startFrame (h : AgreeBelowIndex s t) (b : Byte) :
    AgreeBelowIndex (s.startFrame b) (t.startFrame b) := by
  have stored : AgreeBelow 1 (s.setOctet 0 b) (t.setOctet 0 b) := h.below.setOctet b (by omega)
  exact (stored.map (f := fun u => { u with writeIdx := 1, phase := .receive }) fun _ _ _ => rfl).atIndex
    (Nat.le_refl _)

/-- The fourth octet of a KM frame: index 3 is `write_idx` then (R164, R165). -/
theorem AgreeBelowIndex.storeFourth (h : AgreeBelowIndex s t) (b : Byte) (hn : s.nextLen = 4) :
    AgreeBelowIndex (s.storeFourth b) (t.storeFourth b) := by
  have stored : AgreeBelow 4 (s.setOctet 3 b) (t.setOctet 3 b) :=
    h.below.setOctet b (by unfold State.nextLen at hn; omega)
  exact (stored.map (f := fun u => { u with writeIdx := 4 }) fun _ _ _ => rfl).atIndex (Nat.le_refl _)

/-- The store of a full buffer: index 254 is `write_idx` then (R130, R144, R148, R168). -/
theorem AgreeBelowIndex.storeLast (h : AgreeBelowIndex s t) (b : Byte) (hn : s.nextLen = 255) :
    AgreeBelowIndex (s.storeLast b) (t.storeLast b) := by
  have stored : AgreeBelow 255 (s.setOctet 254 b) (t.setOctet 254 b) :=
    h.below.setOctet b (by unfold State.nextLen at hn; omega)
  exact (stored.map (f := fun u => { u with writeIdx := 255 }) fun _ _ _ => rfl).atIndex (Nat.le_refl _)

/-- The header decode reads indices 0 to 8 (R123). -/
theorem AgreeBelowIndex.decodeHeader (h : AgreeBelowIndex s t) (hn : 9 ≤ s.writeIdx.toNat) :
    AgreeBelowIndex s.decodeHeader t.decodeHeader := by
  have hheader : headerOf t.octet = headerOf s.octet :=
    headerOf_congr fun a ha => h.below.octet (Nat.lt_of_lt_of_le ha hn)
  simp only [State.decodeHeader, hheader]
  exact h.map (f := fun u => { u with header := headerOf s.octet }) (fun _ _ _ => rfl) (Nat.le_refl _)

/-- The eleventh octet of VBUS latches the header and leaves index 11 (R125, R126). -/
theorem AgreeBelowIndex.latchHeader (h : AgreeBelowIndex s t) (hn : s.writeIdx.toNat = 11) :
    AgreeBelowIndex { s.decodeHeader with writeIdx := 11 } { t.decodeHeader with writeIdx := 11 } :=
  (h.decodeHeader (by omega)).map (f := fun u => { u with writeIdx := 11 }) (fun _ _ _ => rfl) (Nat.le_of_eq hn.symm)

/-! ### The block forms of VBUS (44_decode_vbus.md R182, R184, R188) -/

theorem AgreeBelow.injectBits (h : AgreeBelow n s t) (septet : Byte) {off k : Nat} (hk : off + k ≤ n) :
    AgreeBelow n (s.injectBits septet off k) (t.injectBits septet off k) := by
  induction k with
  | zero => exact h
  | succ k ih =>
    have before := ih (by omega)
    simp only [State.injectBits]
    split
    · rw [before.octet (a := off + k) (by omega)]
      exact before.setOctet _ fun _ hc _ => hc
    · exact before

theorem AgreeBelow.septetInject (h : AgreeBelow n s t) {off k : Nat} (hk : off + k < n) :
    AgreeBelow n (s.septetInject off k) (t.septetInject off k) := by
  simp only [State.septetInject, h.octet hk]
  exact h.injectBits _ (Nat.le_of_lt hk)

theorem AgreeBelow.pumpLoop (on : Byte → Bool) {dests : List (Fin 32)} {a : Nat} (h : AgreeBelow n s t)
    (ha : a + dests.length ≤ n) : AgreeBelow n (State.pumpLoop on s a dests) (State.pumpLoop on t a dests) := by
  induction dests generalizing s t a with
  | nil => exact h
  | cons j dests ih =>
    rw [List.length_cons] at ha
    simp only [State.pumpLoop, pumpField, h.octet (a := a) (by omega)]
    exact ih (h.map (f := fun u => (u.setPump j _).setRelay j _) fun _ _ _ => rfl) (by omega)

/-- Agreement on the frame that the header announces: 9 octets of header and `frame_cnt` blocks of 6 (R74). -/
def BlocksAgree (s t : State) : Prop := AgreeBelow (9 + 6 * s.header.frameCnt.toNat) s t

theorem BlocksAgree.map (h : BlocksAgree s t) (hf : BufferFree f) (hheader : (f s).header = s.header) :
    BlocksAgree (f s) (f t) := by
  unfold BlocksAgree
  rw [hheader]
  exact AgreeBelow.map h hf

/-- A present block lies inside the frame, so injecting its septet and then `k`, which may read up to the septet, keeps
the agreement (R184). -/
theorem BlocksAgree.withBlock {k : State → State} {o : Nat} (h : BlocksAgree s t) (ho : o % 6 = 3)
    (hk : ∀ {n u v}, o + 4 < n → AgreeBelow n u v → AgreeBelow n (k u) (k v))
    (hheader : ∀ u, (k u).header = u.header) :
    BlocksAgree (s.withBlock o k) (t.withBlock o k) := by
  have hpresent : t.present o = s.present o := AgreeBelow.same h (·.present o) fun _ _ _ => rfl
  by_cases hp : s.present o = true
  · have hinside : o + 4 < 9 + 6 * s.header.frameCnt.toNat := by
      have := of_decide_eq_true hp
      omega
    rw [State.withBlock_present hp, State.withBlock_present (hpresent.trans hp), BlocksAgree, hheader,
      State.septetInject_header]
    exact hk hinside (AgreeBelow.septetInject h hinside)
  · rw [State.withBlock_absent hp, State.withBlock_absent (hpresent ▸ hp)]
    exact h

theorem BlocksAgree.temp2 {o : Nat} {lo hi : Fin 32} (h : BlocksAgree s t) (ho : o % 6 = 3 := by decide) :
    BlocksAgree (s.temp2 o lo hi) (t.temp2 o lo hi) := by
  refine h.withBlock ho (fun hn a => ?_) fun _ => rfl
  rw [a.le16 (by omega), a.le16 (by omega)]
  exact a.map (f := fun u => (u.setTemp lo _).setTemp hi _) fun _ _ _ => rfl

theorem BlocksAgree.pumps {o : Nat} {dests : List (Fin 32)} {on : Byte → Bool} (h : BlocksAgree s t)
    (ho : o % 6 = 3 := by decide) (hlen : dests.length ≤ 4 := by decide) :
    BlocksAgree (s.pumps o dests on) (t.pumps o dests on) :=
  h.withBlock ho (fun hn a => a.pumpLoop on (by omega))
    fun u => State.pumpLoop_keeps (·.header) on (fun _ _ _ => rfl) (fun _ _ _ => rfl) u o dests

theorem BlocksAgree.hoursBlock {o : Nat} (h : BlocksAgree s t) (ho : o % 6 = 3 := by decide) :
    BlocksAgree (s.hoursBlock o) (t.hoursBlock o) := by
  refine h.withBlock ho (fun hn a => ?_) fun _ => rfl
  simp only [hoursField, a.le16 (a := o) (by omega), a.le16 (a := o + 2) (by omega)]
  exact a.map (f := fun u => (u.setOpHours 0 _).setOpHours 1 _) fun _ _ _ => rfl

theorem BlocksAgree.heatBlock {o : Nat} (h : BlocksAgree s t) (ho : o % 6 = 3 := by decide) :
    BlocksAgree (s.heatBlock o) (t.heatBlock o) := by
  refine h.withBlock ho (fun hn a => ?_) fun _ => rfl
  rw [a.le16 (by omega)]
  exact a.map (f := fun u => { u with heatQuantityWh := _ }) fun _ _ _ => rfl

theorem BlocksAgree.maskBlock {o : Nat} (h : BlocksAgree s t) (ho : o % 6 = 3 := by decide) :
    BlocksAgree (s.maskBlock o) (t.maskBlock o) := by
  refine h.withBlock ho (fun hn a => ?_) fun _ => rfl
  rw [a.le16 (by omega)]
  exact a.map (f := fun u => { u with errorMask := _ }) fun _ _ _ => rfl

theorem BlocksAgree.maskAndTimeBlock {o : Nat} (h : BlocksAgree s t) (ho : o % 6 = 3 := by decide) :
    BlocksAgree (s.maskAndTimeBlock o) (t.maskAndTimeBlock o) := by
  refine h.withBlock ho (fun hn a => ?_) fun _ => rfl
  rw [a.le16 (by omega), a.le16 (by omega)]
  exact a.map (f := fun u => { u with errorMask := _, systemTimeMinutes := _ }) fun _ _ _ => rfl

theorem BlocksAgree.variantBlock {o : Nat} (h : BlocksAgree s t) (ho : o % 6 = 3 := by decide) :
    BlocksAgree (s.variantBlock o) (t.variantBlock o) := by
  refine h.withBlock ho (fun hn a => ?_) fun _ => rfl
  rw [a.octet (by omega)]
  exact a.map (f := fun u => { u with systemVariant := _ }) fun _ _ _ => rfl

theorem BlocksAgree.setCounts (h : BlocksAgree s t) (temps pumps relays : BitVec 8) :
    BlocksAgree (s.setCounts temps pumps relays) (t.setCounts temps pumps relays) :=
  h.map (f := fun u => u.setCounts temps pumps relays) (fun _ _ _ => rfl) rfl

/-! ### The extractors -/

theorem BlocksAgree.extractVitosolic (h : BlocksAgree s t) : BlocksAgree s.extractVitosolic t.extractVitosolic :=
  h.temp2.temp2.temp2.temp2.temp2.temp2.pumps.pumps.maskAndTimeBlock.variantBlock.setCounts ..

theorem BlocksAgree.extractBx (h : BlocksAgree s t) : BlocksAgree s.extractBx t.extractBx :=
  h.temp2.temp2.temp2.pumps.hoursBlock.heatBlock.setCounts ..

theorem BlocksAgree.extractMx (h : BlocksAgree s t) : BlocksAgree s.extractMx t.extractMx :=
  h.temp2.temp2.pumps.hoursBlock.heatBlock.maskBlock.setCounts ..

theorem BlocksAgree.extractGeneric (h : BlocksAgree s t) : BlocksAgree s.extractGeneric t.extractGeneric :=
  h.temp2.temp2.setCounts ..

theorem AgreeBelow.kwpTemps (h : AgreeBelow n s t) {start k : Nat} (hk : ∀ j < k, start + 2 * j + 1 < n) :
    AgreeBelow n (s.kwpTemps start k) (t.kwpTemps start k) := by
  induction k with
  | zero => exact h
  | succ k ih =>
    have before := ih fun j hj => hk j (Nat.lt_succ_of_lt hj)
    simp only [State.kwpTemps, before.be16 (hk k (Nat.lt_succ_self k))]
    exact before.map (f := fun u => u.setTemp _ _) fun _ _ _ => rfl

/-- The words of a KW or P300 frame end at the checksum octet (R210). -/
theorem AgreeBelow.kwpExtract (h : AgreeBelow n s t) (start : Nat) (hn : n = (s.octet 1).toNat + 3) :
    AgreeBelow n (s.kwpExtract start) (t.kwpExtract start) := by
  have words : ∀ j < kwpCount (s.octet 1) start, start + 2 * j + 1 < n := by
    intro j hj
    unfold kwpCount at hj
    omega
  simp only [State.kwpExtract, h.octet (a := 1) (by omega)]
  exact (h.kwpTemps words).map (f := fun u =>
    { u with pump := _, relay := _, tempNum := _, pumpNum := _, relayNum := _ }) fun _ _ _ => rfl

/-- The KM view reads indices up to 18 (R219). -/
theorem kmViewOf_congr {rd rd' : Nat → Byte} (old : KmView) (h : ∀ a < 19, rd' a = rd a) :
    kmViewOf rd' old = kmViewOf rd old := by
  simp [kmViewOf, kmTemp, kmDecoded, h]

theorem AgreeBelow.kmExtract (h : AgreeBelow n s t) (hn : 19 ≤ n) : AgreeBelow n s.kmExtract t.kmExtract := by
  have hview : kmViewOf t.octet t.km = kmViewOf s.octet s.km := by
    rw [kmViewOf_congr t.km fun a ha => h.octet (Nat.lt_of_lt_of_le ha hn), h.same (·.km) fun _ _ _ => rfl]
  simp only [State.kmExtract, hview]
  exact h.map (f := fun u => State.kmMirror { u with km := _ }) fun _ _ _ => rfl

theorem AgreeBelow.enterDecode (h : AgreeBelow n s t) : AgreeBelow n s.enterDecode t.enterDecode :=
  h.map fun _ _ _ => rfl

/-- The Decode frame ends with index 0, so nothing of the buffer counts any more (R180). -/
theorem AgreeBelow.decoding {k : State → State} (h : AgreeBelow n (k s.enterDecode) (k t.enterDecode)) :
    AgreeBelowIndex (s.decoding k) (t.decoding k) :=
  (h.map (f := fun u => State.leaveDecode { u with ready := true }) fun _ _ _ => rfl).atIndex (Nat.zero_le _)

end Sys2Proof.Machine
end

section
/-! PROOFS. What the current frame has not written cannot matter (20_memory.md R58, R59,
93_implementation_defined.md E2, E3): two states that agree below `write_idx` select the same
operation, and that operation keeps the agreement. -/

namespace Sys2Proof.Machine

variable {s t : State} {b : Byte} {i : Instr} {p : Protocol} {n : Nat}

/-! ### Selection -/

/-- The presented octet counts as stored (R81), so what is seen agrees below `n`. -/
theorem AgreeBelowIndex.seen (h : AgreeBelowIndex s t) {a : Nat} (ha : a < s.nextLen) : t.seen a = s.seen a := by
  unfold State.nextLen at ha
  simp only [State.seen, h.below.writeIdx_eq, h.below.rxData_eq]
  split
  · rfl
  · next hne => exact h.below.octet (by omega)

/-- The two frame contexts answer alike every test that selection in RECEIVE puts at length `n` (R131, R140, R162). -/
structure ReceiveTestsAgree (p : Protocol) (n : Nat) (c d : FrameContext) : Prop where
  complete : d.complete = c.complete
  intact : c.complete = true → d.intact = c.intact
  vbusHeader : n = 11 → d.versionOk = c.versionOk ∧ d.headerCrcOk = c.headerCrcOk
  kmHeader : n = 4 → d.kmHeaderOk = c.kmHeaderOk

theorem ReceiveTestsAgree.selectReceive {c d : FrameContext} (h : ReceiveTestsAgree p n c d) (b : Byte) :
    selectReceive p n b d = selectReceive p n b c := by
  have verdict : ∀ x y z : Instr, (if c.complete then if d.intact then x else y else z) =
      if c.complete then if c.intact then x else y else z := by
    intro x y z
    split
    · next hc => rw [h.intact hc]
    · rfl
  cases p
  case vbus =>
    simp only [Sys2Proof.selectReceive, selectVbus, h.complete, verdict]
    split
    · rfl
    split
    · next h11 => rw [(h.vbusHeader h11).1, (h.vbusHeader h11).2]
    · rfl
  case kw => simp only [Sys2Proof.selectReceive, selectKw, h.complete, verdict]
  case p300 => simp only [Sys2Proof.selectReceive, selectP300, h.complete, verdict]
  case km =>
    simp only [Sys2Proof.selectReceive, selectKm, h.complete, verdict]
    split
    · next h4 => rw [h.kmHeader h4]
    · rfl

/-- Past the first octet the completion test reads nothing but the length octet and the header registers (R74). -/
theorem AgreeBelowIndex.frameComplete (h : AgreeBelowIndex s t) (hn : s.protocol ≠ .vbus → 2 ≤ s.nextLen) :
    t.frameComplete = s.frameComplete := by
  simp only [State.frameComplete, h.below.protocol_eq, h.below.nextLen_eq, h.below.header_eq]
  cases hp : s.protocol with
  | vbus => rfl
  | kw | p300 | km => simp only [h.seen (hn (by simp [hp]))]

/-- A header that announces a length announces it by its frame count (R29). -/
theorem Inv.frameLen_eq (h : Inv s) (hne : s.header.frameLen.toNat ≠ 0) :
    s.header.frameLen.toNat = 10 + 6 * s.header.frameCnt.toNat := by
  obtain hz | ⟨-, hl⟩ := h.headerShape
  · exact absurd (by rw [hz]; rfl) hne
  · exact hl

/-- The check of a complete frame reads inside the frame (R128, R142, R146, R166). -/
theorem AgreeBelowIndex.frameIntact (h : AgreeBelowIndex s t) (hs : Inv s) (hc : s.frameComplete = true) :
    t.frameIntact = s.frameIntact := by
  simp only [State.frameIntact, h.below.protocol_eq, h.below.nextLen_eq, h.below.header_eq, h.below.rxData_eq]
  unfold State.frameComplete at hc
  cases hp : s.protocol with
  | vbus =>
    simp only [hp, decide_eq_true_eq] at hc
    have hlen := hs.frameLen_eq (by omega)
    exact blocksOk_congr fun a ha => h.seen (by omega)
  | kw =>
    simp only [hp, decide_eq_true_eq] at hc
    have hxor : xorRange t.seen 0 (s.nextLen - 1) = xorRange s.seen 0 (s.nextLen - 1) :=
      xorRange_congr fun a ha => h.seen (by omega)
    simp only [Machine.kwIntact, hxor]
  | p300 =>
    simp only [hp, decide_eq_true_eq] at hc
    have hsum : sum8Range t.seen 0 (s.nextLen - 1) = sum8Range s.seen 0 (s.nextLen - 1) :=
      sum8Range_congr fun a ha => h.seen (by omega)
    simp only [Machine.p300Intact, hsum]
  | km =>
    simp only [hp, decide_eq_true_eq] at hc
    have hcrc : crc16km t.seen 4 (s.seen 1).toNat = crc16km s.seen 4 (s.seen 1).toNat :=
      crc16km_congr fun a ha => h.seen (by omega)
    simp only [Machine.kmIntact, le16, h.seen (a := 1) (by omega), h.seen (a := s.nextLen - 3) (by omega),
      h.seen (a := s.nextLen - 3 + 1) (by omega), hcrc]

theorem AgreeBelowIndex.receiveTests (h : AgreeBelowIndex s t) (hs : Inv s) (hp : s.phase = .receive) :
    ReceiveTestsAgree s.protocol s.nextLen s.frameContext t.frameContext where
  complete := h.frameComplete fun hv => Nat.succ_le_succ (hs.receiveStarted hp hv)
  intact hc := h.frameIntact hs hc
  vbusHeader hn := by
    have hcrc : calcCrc t.seen 0 9 = calcCrc s.seen 0 9 := calcCrc_congr fun a ha => h.seen (by omega)
    simp only [State.frameContext, h.seen (a := 4) (by omega), hcrc, and_self]
  kmHeader hn := by
    simp only [State.frameContext, h.seen (a := 1) (by omega), h.seen (a := 2) (by omega), h.below.rxData_eq]

/-- A status record's octets stand inside the validated KM frame (R215). -/
theorem AgreeBelowIndex.kmStatusRecord (h : AgreeBelowIndex s t) (hn : s.writeIdx.toNat = (s.octet 1).toNat + 7) :
    t.kmStatusRecord = s.kmStatusRecord := by
  simp only [State.kmStatusRecord, h.below.octet (a := 1) (by omega), h.below.octet (a := 4) (by omega)]
  by_cases h15 : 15 ≤ (s.octet 1).toNat
  · rw [h.below.octet (a := 7) (by omega)]
  · simp [h15]

/-- Selection in DECODE reads the command, the source address and, under KM, the status record test (R185, R215). -/
theorem selectDecode_congr {c d : FrameContext} (hcmd : d.cmd = c.cmd) (hsrc : d.srcAddr = c.srcAddr)
    (hkm : p = .km → d.statusRecord = c.statusRecord) : selectDecode p d = selectDecode p c := by
  cases p with
  | vbus => unfold selectDecode; rw [hcmd, hsrc]
  | kw | p300 => rfl
  | km => unfold selectDecode; rw [hkm rfl]

theorem AgreeBelowIndex.selectDecode (h : AgreeBelowIndex s t) (hs : Inv s) (hp : s.phase = .decode) :
    selectDecode s.protocol t.frameContext = selectDecode s.protocol s.frameContext :=
  selectDecode_congr (congrArg Header.cmd h.below.header_eq) (congrArg Header.srcAddr h.below.header_eq)
    fun hq => h.kmStatusRecord (hs.decodeKm hp hq)

/-- Selection reads the frame context in DECODE and RECEIVE only (R72). -/
theorem select_context_congr {σ : Selector} {c : FrameContext}
    (hd : σ.phase = .decode → selectDecode σ.protocol c = selectDecode σ.protocol σ.context)
    (hr : σ.phase = .receive → selectReceive σ.protocol σ.n σ.rxData c =
      selectReceive σ.protocol σ.n σ.rxData σ.context) :
    select { σ with context := c } = select σ := by
  cases hp : σ.phase with
  | error | sync => simp only [select, hp]
  | decode => simp only [select, hp, hd hp]
  | receive => simp only [select, hp, hr hp]

/-- What the current frame has not written does not select (R58, R59). -/
theorem AgreeBelowIndex.selected (h : AgreeBelowIndex s t) (hs : Inv s) : t.selected = s.selected := by
  have hcontext : t.selector = { s.selector with context := t.frameContext } := by
    obtain ⟨m, k, rfl⟩ := h.below.exists_buffer
    rfl
  unfold State.selected
  rw [hcontext]
  exact select_context_congr (h.selectDecode hs) fun hp => (h.receiveTests hs hp).selectReceive _

/-! ### The operations -/

/-- If the first result is a next state, then so is the second, and the two agree below the index. -/
def ResultsAgree (x y : Result) : Prop :=
  ∀ s', x = .next s' → ∃ t', y = .next t' ∧ AgreeBelowIndex s' t'

theorem ResultsAgree.next (h : AgreeBelowIndex s t) : ResultsAgree (.next s) (.next t) := by
  intro s' hs
  obtain rfl := Host.Outcome.next.inj hs
  exact ⟨t, rfl, h⟩

theorem ResultsAgree.storing {k : State → State} (h : AgreeBelowIndex s t)
    (hk : ∀ {u v}, AgreeBelowIndex u v → u.writeIdx.toNat = s.nextLen → AgreeBelowIndex (k u) (k v)) :
    ResultsAgree (s.storing b k) (t.storing b k) := by
  intro s' hs
  obtain ⟨hlt, rfl⟩ := State.storing_eq_next.1 hs
  exact ⟨_, State.storing_of_lt (h.below.writeIdx_eq ▸ hlt),
    hk (h.consume.storeOctet b) (State.storeOctet_index b hlt)⟩

/-- The block range of the END operations is a matter of the header (R128). -/
theorem ResultsAgree.blocksInside {x y : Result} (h : AgreeBelowIndex s t) (hxy : ResultsAgree x y) :
    ResultsAgree (if s.blocksInside then x else .fault .bufferIndex)
      (if t.blocksInside then y else .fault .bufferIndex) := by
  rw [h.below.same State.blocksInside fun _ _ _ => rfl]
  split
  · exact hxy
  · intro s' hs
    cases hs

/-- RESET leaves nothing of the buffer to agree on (R42). -/
theorem AgreeBelowIndex.afterReset (p : Ports) (w : Bool) (e : List EnvMove) (j k : Nat) :
    AgreeBelowIndex (State.afterReset p w e j) (State.afterReset p w e k) :=
  AgreeBelow.atIndex (n := 0) ⟨rfl, nofun⟩ (Nat.le_refl 0)

/-- WDOG writes `last_progress_ms` and the phase (R243). -/
theorem AgreeBelowIndex.wdog (h : AgreeBelowIndex s t) : ResultsAgree (exec .wdog s) (exec .wdog t) := by
  have hrearm : t.wdogRearm = s.wdogRearm := h.below.same State.wdogRearm fun _ _ _ => rfl
  rw [exec_wdog, exec_wdog]
  by_cases hw : s.wdogRearm = true
  · rw [if_pos hw, if_pos (hrearm.trans hw)]
    exact .next (h.map (f := fun u => { u with lastProgressMs := u.ports.nowMs, phase := .error }) (fun _ _ _ => rfl)
      (Nat.le_refl _))
  · rw [if_neg hw, if_neg (hrearm ▸ hw)]
    exact .next (h.with_phase .error)

/-- In DECODE under VBUS the frame in the buffer is the one that the header announces (R74). -/
theorem AgreeBelowIndex.blocks (h : AgreeBelowIndex s t) (hs : Inv s) (hd : s.decodes .vbus) :
    BlocksAgree s.enterDecode t.enterDecode := by
  obtain ⟨-, hp, hq⟩ := hd
  obtain ⟨-, -, -, hidx⟩ := hs.decodeVbus hp hq
  exact (h.below.mono (Nat.le_of_eq hidx.symm)).enterDecode

theorem AgreeBelowIndex.kwpFrame (h : AgreeBelowIndex s t) (hs : Inv s) {q : Protocol} (hd : s.decodes q)
    (hq : q = .kw ∨ q = .p300) (start : Nat) :
    AgreeBelowIndex (s.decoding (·.kwpExtract start)) (t.decoding (·.kwpExtract start)) := by
  obtain ⟨-, hp, rfl⟩ := hd
  exact AgreeBelow.decoding (h.below.enterDecode.kwpExtract start (hs.decodeKwp hp hq))

theorem AgreeBelowIndex.kmStatusFrame (h : AgreeBelowIndex s t) (hs : Inv s) (hd : s.decodes .km)
    (hr : s.isStatusRecord) : AgreeBelowIndex (s.decoding State.kmExtract) (t.decoding State.kmExtract) := by
  obtain ⟨-, hp, hq⟩ := hd
  obtain ⟨h15, -⟩ := hr
  have hidx := hs.decodeKm hp hq
  exact AgreeBelow.decoding (h.below.enterDecode.kmExtract (by omega))

/-- Every selected operation keeps the agreement: what it reads stands below `write_idx`, and where it moves the index
up it has stored. -/
theorem AgreeBelowIndex.exec (h : AgreeBelowIndex s t) (hs : Inv s) (row : rowCondition i s) :
    ResultsAgree (exec i s) (exec i t) := by
  cases i
  case reset =>
    obtain ⟨m, k, rfl⟩ := h.below.exists_buffer
    exact .next (.afterReset ..)
  case err => exact .next (h.map (f := State.leaveError) (fun _ _ _ => rfl) (Nat.zero_le _))
  case wdog => exact h.wdog
  case idle => exact .next h
  case syncSkip => exact .next h.consume
  case syncVbus =>
    exact .next (h.consume.map (f := fun u => { u with header := Header.zero, writeIdx := 0, phase := .receive })
      (fun _ _ _ => rfl) (Nat.zero_le _))
  case syncKw b | syncP300 b | syncKm b => exact .next (h.consume.startFrame b)
  case vrxMsb => exact .next (h.consume.with_phase .error)
  case vrxStore | krxStore | prxStore | mrxStore => exact .storing h fun a _ => a
  case vrxHdrDiscard =>
    obtain ⟨-, -, hn, -⟩ := row
    exact .storing h fun a hidx => (a.decodeHeader (by omega)).map
      (f := fun u => { u with phase := .sync, writeIdx := 0 }) (fun _ _ _ => rfl) (Nat.zero_le _)
  case vrxHdrCrcerr =>
    obtain ⟨-, -, hn, -⟩ := row
    exact .storing h fun a hidx => (a.latchHeader (hidx.trans hn)).with_phase .error
  case vrxHdrOk =>
    obtain ⟨-, -, hn, -⟩ := row
    exact .storing h fun a hidx => a.latchHeader (hidx.trans hn)
  case krxEndOk | prxEndOk | mrxEndOk => exact .storing h fun a _ => a.with_phase .decode
  case krxEndErr | prxEndErr | mrxEndErr => exact .storing h fun a _ => a.with_phase .error
  case vrxEndOk => exact .blocksInside h (.storing h fun a _ => a.with_phase .decode)
  case vrxEndCrcerr => exact .blocksInside h (.storing h fun a _ => a.with_phase .error)
  case vrxOvf =>
    obtain ⟨-, -, hn, -⟩ := row
    exact .next ((h.consume.storeLast _ hn).with_phase .error)
  case krxOvf | prxOvf | mrxOvf =>
    obtain ⟨-, hn, -⟩ := row
    exact .next ((h.consume.storeLast _ hn).with_phase .error)
  case mrxHdrOk =>
    obtain ⟨-, hn, -⟩ := row
    exact .next (h.consume.storeFourth _ hn)
  case mrxHdrErr =>
    obtain ⟨-, hn, -⟩ := row
    exact .next ((h.consume.storeFourth _ hn).with_phase .error)
  case decVbusDrop =>
    exact .next (h.map (f := fun u => u.enterDecode.leaveDecode) (fun _ _ _ => rfl) (Nat.zero_le _))
  case decVbusVitosolic => exact .next (AgreeBelow.decoding (h.blocks hs row.1).extractVitosolic)
  case decVbusBx => exact .next (AgreeBelow.decoding (h.blocks hs row.1).extractBx)
  case decVbusMx => exact .next (AgreeBelow.decoding (h.blocks hs row.1).extractMx)
  case decVbusGeneric => exact .next (AgreeBelow.decoding (h.blocks hs row.1).extractGeneric)
  case decKw => exact .next (h.kwpFrame hs row (.inl rfl) 3)
  case decP300 => exact .next (h.kwpFrame hs row (.inr rfl) 5)
  case decKmStatus => exact .next (h.kmStatusFrame hs row.1 row.2)
  case decKmOther => exact .next (AgreeBelow.decoding h.below.enterDecode)

/-- The converse of `exists_exec_of_step`. -/
theorem step_of_exec_next {u : State} (h : exec s.selected s = .next u) : step s = .next u.boundary := by
  simp only [step, h]

/-- Settles O58: agreement below `write_idx` decides the selection, the selected operation keeps it, and the step
boundary does not look at the buffer. -/
theorem staleOctetsNeverMatter : Obligations.StaleOctetsNeverMatter := by
  intro s t s' hs _ h hstep
  have hsel := h.selected hs
  obtain ⟨u, hu, rfl⟩ := exists_exec_of_step hstep
  obtain ⟨v, hv, huv⟩ := h.exec hs (State.rowCondition_selected hs.receiveIndex) u hu
  exact ⟨hsel.symm, v.boundary, step_of_exec_next (hsel ▸ hv), huv.boundary⟩

end Sys2Proof.Machine
end

section
/-! PROOFS. Operation words: decoding and encoding are inverse to each other on the well-formed operations
(30_encoding.md R71, R81, log entry 8). -/

namespace Sys2Proof

variable {i : Instr} {b r : Byte} {row : Nat}

/-! ### The rows of R81 -/

theorem Instr.number_lt (i : Instr) : i.number < 256 := by
  cases i <;> simp [Instr.number]

/-- The row of an operation names it, given its event octet (the `WordShape` family, for all operations at once). -/
theorem rowInstr_number (i : Instr) : rowInstr i.number (i.eventOctet.getD 0) = some i := by
  cases i <;> rfl

/-- A row names an operation of that row, and an octet the operation carries is the one given. -/
theorem rowInstr_eq_some (h : rowInstr row b = some i) :
    i.number = row ∧ (i.eventOctet = some b ∨ i.eventOctet = none) := by
  unfold rowInstr at h
  split at h
  case h_41 => cases h
  all_goals
    obtain rfl := Option.some.inj h
    simp [Instr.number, Instr.eventOctet]

/-! ### Decoding -/

/-- What the decoder accepts of a two-octet word. -/
theorem decode_pair_eq_ok :
    decode [b, r] = .ok i ↔
      rowInstr r.toNat b = some i ∧ i.wellFormed = true ∧ (i.eventOctet.isSome = true ∨ b = 0) := by
  simp only [decode]
  split
  · next hrow => simp [hrow]
  · next j hrow =>
    simp only [hrow, Option.some.injEq, Bool.and_eq_true, Bool.or_eq_true, beq_iff_eq]
    split
    · next hj =>
      rw [Except.ok.injEq]
      exact ⟨fun h => h ▸ ⟨rfl, hj⟩, fun h => h.1⟩
    · next hj =>
      refine ⟨nofun, ?_⟩
      rintro ⟨rfl, h⟩
      exact absurd h hj

/-- No word of another length is accepted. -/
theorem exists_pair_of_decode_eq_ok {w : List Byte} (h : decode w = .ok i) : ∃ b r, w = [b, r] := by
  unfold decode at h
  split at h
  · exact ⟨_, _, rfl⟩
  · cases h

/-- Settles O5: the row number gives the row back, and the event octet is the one the row was given. -/
theorem decodeEncodeRoundTrip : Obligations.DecodeEncodeRoundTrip := by
  intro i hwf
  have hnumber : (BitVec.ofNat 8 i.number).toNat = i.number := Nat.mod_eq_of_lt i.number_lt
  refine decode_pair_eq_ok.2 ⟨by rw [hnumber]; exact rowInstr_number i, hwf, ?_⟩
  cases i.eventOctet with
  | none => exact .inr rfl
  | some b => exact .inl rfl

/-- Settles O6: an accepted word has its operation's row number second, and first its event octet, or 0 where it has
none. -/
theorem decodedWordsAreCanonical : Obligations.DecodedWordsAreCanonical := by
  intro w i h
  obtain ⟨b, r, rfl⟩ := exists_pair_of_decode_eq_ok h
  obtain ⟨hrow, hwf, hoctet⟩ := decode_pair_eq_ok.1 h
  obtain ⟨hnumber, hevent⟩ := rowInstr_eq_some hrow
  have hfirst : i.eventOctet.getD 0 = b := by
    obtain he | he := hevent
    · rw [he]; rfl
    · rw [he] at hoctet ⊢
      exact (hoctet.resolve_left nofun).symm
  refine ⟨?_, hwf⟩
  rw [encode, hfirst, hnumber, BitVec.ofNat_toNat, BitVec.setWidth_eq]

/-- Settles O4: each word is decoded by evaluation. -/
theorem operationWordsDecode : Obligations.OperationWordsDecode :=
  ⟨rfl, rfl, rfl, rfl, rfl, rfl, rfl, rfl, rfl, rfl⟩

end Sys2Proof
end

section
/-! PROOFS. One step in terms of its operation (30_encoding.md R70, R72). -/

namespace Sys2Proof.Machine

/-- Settles O1: `step_of_exec_next`, and the same for a fault. -/
theorem stepRunsSelectedOperation : Obligations.StepRunsSelectedOperation := by
  rintro _ s rfl
  exact ⟨fun t h => step_of_exec_next h, fun f h => by rw [step, h]⟩

end Sys2Proof.Machine
end

section
/-! PROOFS. Selection is decided by the row conditions of 30_encoding.md R81: the one operation whose condition holds is
the one selected (R72, R73, R131, R140, R162, R185, R215). -/

namespace Sys2Proof.Machine

variable {s : State} {b : Byte} {p : Protocol} {i : Instr}

theorem State.receives.selected_eq (h : s.receives p b) : s.selected = selectReceive p s.nextLen b s.frameContext := by
  rw [State.selected_of_receive h.presents, h.protocol_eq]

theorem State.decodes.selected_eq (h : s.decodes p) : s.selected = selectDecode p s.frameContext := by
  obtain ⟨hr, hd, hp⟩ := h
  rw [State.selected_of_decode hr hd, hp]

/-! ### SYNC (R73) -/

/-- The active protocol decides whether the presented octet starts a frame or is skipped. -/
theorem State.selected_of_syncRow (h : s.presents .sync b) (hi : i ∈ syncOps s.protocol b) (row : rowCondition i s) :
    s.selected = i := by
  rw [State.selected_of_sync h]
  cases hp : s.protocol <;> rw [hp] at hi <;> fin_cases hi
  all_goals
    have octet := row.2
    simpa [selectSync, isSyncValue, hp, or_iff_not_imp_left] using octet

/-! ### RECEIVE

The tests that stand before a row's own in the protocol's order fail under the row's condition. -/

/-- The order of R131. -/
theorem State.selected_of_vbusRow (h : s.receives .vbus b) (hi : i ∈ receiveOps .vbus b) (row : rowCondition i s) :
    s.selected = i := by
  have cf := State.contextFacts h.presents
  simp only [h.selected_eq, selectReceive, selectVbus, msb_eq_getLsbD_seven, Bool.not_eq_true', ← Bool.not_eq_true,
    cf.versionOk, cf.headerCrcOk, cf.vbusComplete h.protocol_eq, cf.vbusIntact h.protocol_eq]
  by_cases h7 : b.getLsbD 7 = true
  · rw [if_pos h7]
    fin_cases hi
    · rfl
    all_goals exact absurd h7 (ne_true_of_eq_false row.2.1)
  rw [if_neg h7]
  fin_cases hi
  · exact absurd row.2 h7
  · obtain ⟨-, -, h11, hv⟩ := row
    rw [if_pos h11, if_pos hv]
  · obtain ⟨-, -, h11, hv, hc⟩ := row
    rw [if_pos h11, if_neg (not_not.2 hv), if_pos hc]
  · obtain ⟨-, -, h11, hv, hc⟩ := row
    rw [if_pos h11, if_neg (not_not.2 hv), if_neg (not_not.2 hc)]
  · obtain ⟨-, -, h11, hc, hn⟩ := row
    rw [if_neg h11, if_neg hc, if_neg (Nat.ne_of_lt hn)]
  · obtain ⟨-, -, hn, hlen, hi⟩ := row
    rw [if_neg (Nat.ne_of_gt hn), if_pos ⟨hn, hlen⟩, if_pos hi]
  · obtain ⟨-, -, hn, hlen, k, hk, hbad⟩ := row
    rw [if_neg (Nat.ne_of_gt hn), if_pos ⟨hn, hlen⟩, if_neg fun hi => hbad (hi k hk)]
  · obtain ⟨-, -, hn, hlen⟩ := row
    have hfirst : s.nextLen ≠ 11 := by omega
    rw [if_neg hfirst, if_neg fun hc => hlen hc.2, if_pos hn]

/-- The order of R140. -/
theorem State.selected_of_kwRow (h : s.receives .kw b) (hi : i ∈ receiveOps .kw b) (row : rowCondition i s) :
    s.selected = i := by
  have cf := State.contextFacts h.presents
  simp only [h.selected_eq, selectReceive, selectKw, cf.kwpComplete (.inl h.protocol_eq), cf.kwIntact h.protocol_eq]
  fin_cases hi
  · obtain ⟨-, hc, hn⟩ := row
    rw [if_neg hc, if_neg (Nat.ne_of_lt hn)]
  · obtain ⟨-, hn, hlen, hx⟩ := row
    rw [if_pos ⟨hn, hlen⟩, if_pos hx]
  · obtain ⟨-, hn, hlen, hx⟩ := row
    rw [if_pos ⟨hn, hlen⟩, if_neg hx]
  · obtain ⟨-, hn, hlen⟩ := row
    rw [if_neg fun hc => hlen hc.2, if_pos hn]

/-- The order of R140. -/
theorem State.selected_of_p300Row (h : s.receives .p300 b) (hi : i ∈ receiveOps .p300 b) (row : rowCondition i s) :
    s.selected = i := by
  have cf := State.contextFacts h.presents
  simp only [h.selected_eq, selectReceive, selectP300, cf.kwpComplete (.inr h.protocol_eq),
    cf.p300Intact h.protocol_eq]
  fin_cases hi
  · obtain ⟨-, hc, hn⟩ := row
    rw [if_neg hc, if_neg (Nat.ne_of_lt hn)]
  · obtain ⟨-, hn, hlen, hx⟩ := row
    rw [if_pos ⟨hn, hlen⟩, if_pos hx]
  · obtain ⟨-, hn, hlen, hx⟩ := row
    rw [if_pos ⟨hn, hlen⟩, if_neg hx]
  · obtain ⟨-, hn, hlen⟩ := row
    rw [if_neg fun hc => hlen hc.2, if_pos hn]

/-- The order of R162. -/
theorem State.selected_of_kmRow (h : s.receives .km b) (hi : i ∈ receiveOps .km b) (row : rowCondition i s) :
    s.selected = i := by
  have cf := State.contextFacts h.presents
  simp only [h.selected_eq, selectReceive, selectKm, cf.kmComplete h.protocol_eq, cf.kmHeaderOk]
  fin_cases hi
  · obtain ⟨-, h4, hc, hn⟩ := row
    rw [if_neg h4, if_neg hc, if_neg (Nat.ne_of_lt hn)]
  · obtain ⟨-, h4, hh⟩ := row
    rw [if_pos h4, if_pos hh]
  · obtain ⟨-, h4, hh⟩ := row
    rw [if_pos h4, if_neg (not_and_or.2 hh)]
  · obtain ⟨-, hn, hlen, hg⟩ := row
    have hi := cf.kmIntact h.protocol_eq (by omega)
    rw [if_neg (Nat.ne_of_gt hn), if_pos ⟨hn, hlen⟩, if_pos (hi.2 hg)]
  · obtain ⟨-, hn, hlen, hg⟩ := row
    have hi := cf.kmIntact h.protocol_eq (by omega)
    rw [if_neg (Nat.ne_of_gt hn), if_pos ⟨hn, hlen⟩, if_neg (mt hi.1 hg)]
  · obtain ⟨-, hn, hlen⟩ := row
    have hfirst : s.nextLen ≠ 4 := by omega
    rw [if_neg hfirst, if_neg fun hc => hlen hc.2, if_pos hn]

/-! ### DECODE -/

/-- The chain of R185. -/
theorem State.decodes.selected_vbus (h : s.decodes .vbus) :
    s.selected =
      if s.header.cmd ≠ 0x0100 then .decVbusDrop
      else if s.header.srcAddr = 0x1060 then .decVbusVitosolic
      else if s.header.srcAddr = 0x7E11 ∨ s.header.srcAddr = 0x7E21 then .decVbusBx
      else if s.header.srcAddr = 0x7E31 then .decVbusMx
      else .decVbusGeneric :=
  h.selected_eq

/-- The test of R215. -/
theorem State.decodes.selected_km (h : s.decodes .km) :
    s.selected = if s.kmStatusRecord = true then .decKmStatus else .decKmOther :=
  h.selected_eq

theorem State.selected_of_vbusDecodeRow (h : s.decodes .vbus) (hi : i ∈ decodeOps .vbus) (row : rowCondition i s) :
    s.selected = i := by
  rw [h.selected_vbus]
  fin_cases hi
  · obtain ⟨-, hc⟩ := row
    rw [if_pos hc]
  · obtain ⟨-, hc, h1060⟩ := row
    rw [if_neg (not_not.2 hc), if_pos h1060]
  · obtain ⟨-, hc, hbx⟩ := row
    have h1060 : s.header.srcAddr ≠ 0x1060 := by obtain h | h := hbx <;> rw [h] <;> decide
    rw [if_neg (not_not.2 hc), if_neg h1060, if_pos hbx]
  · obtain ⟨-, hc, hmx⟩ := row
    have h1060 : s.header.srcAddr ≠ 0x1060 := by rw [hmx]; decide
    have hbx : ¬(s.header.srcAddr = 0x7E11 ∨ s.header.srcAddr = 0x7E21) := by rw [hmx]; decide
    rw [if_neg (not_not.2 hc), if_neg h1060, if_neg hbx, if_pos hmx]
  · obtain ⟨-, hc, h1060, h7e11, h7e21, h7e31⟩ := row
    rw [if_neg (not_not.2 hc), if_neg h1060, if_neg (not_or.2 ⟨h7e11, h7e21⟩), if_neg h7e31]

/-! ### Every row -/

/-- The operation whose row condition holds is selected, with the buffer full or not. -/
theorem State.selected_of_rowCondition (row : rowCondition i s) : s.selected = i := by
  cases i
  case reset => exact State.selected_of_rst row
  case err => exact State.selected_of_error row.1 row.2
  case wdog => exact State.selected_of_wdogDue row.1 row.2
  case idle => exact State.selected_of_quiet row.1 row.2.1 row.2.2
  case syncSkip => exact State.selected_of_syncRow row.1 (List.mem_cons_self ..) row
  case syncVbus | syncKw | syncP300 | syncKm =>
    exact State.selected_of_syncRow row.1 (by simp [syncOps, row.2.1]) row
  case vrxMsb | vrxHdrDiscard | vrxHdrCrcerr | vrxHdrOk | vrxStore | vrxEndOk | vrxEndCrcerr | vrxOvf =>
    exact State.selected_of_vbusRow row.1 (by simp [receiveOps]) row
  case krxStore | krxEndOk | krxEndErr | krxOvf => exact State.selected_of_kwRow row.1 (by simp [receiveOps]) row
  case prxStore | prxEndOk | prxEndErr | prxOvf => exact State.selected_of_p300Row row.1 (by simp [receiveOps]) row
  case mrxStore | mrxHdrOk | mrxHdrErr | mrxEndOk | mrxEndErr | mrxOvf =>
    exact State.selected_of_kmRow row.1 (by simp [receiveOps]) row
  case decVbusDrop | decVbusVitosolic | decVbusBx | decVbusMx | decVbusGeneric =>
    exact State.selected_of_vbusDecodeRow row.1 (by simp [decodeOps]) row
  case decKw | decP300 => exact State.decodes.selected_eq row
  case decKmStatus =>
    obtain ⟨h, hstatus⟩ := row
    rw [h.selected_km, if_pos (s.kmStatusRecord_iff.2 hstatus)]
  case decKmOther =>
    obtain ⟨h, hstatus⟩ := row
    rw [h.selected_km, if_neg (mt s.kmStatusRecord_iff.1 hstatus)]

/-- Settles O2: a row's condition decides the selection, and the selected operation's row condition holds. -/
theorem selectionFindsTheOneRow : Obligations.SelectionFindsTheOneRow := by
  intro s hlt i
  exact ⟨fun h => h ▸ State.rowCondition_selected hlt, State.selected_of_rowCondition⟩

end Sys2Proof.Machine
end

section
/-! PROOFS. The selected operation's event octet: it is the one presented, and it fits match and mask of its row
(30_encoding.md R71, R81). -/

namespace Sys2Proof.Machine

variable {s : State} {b : Byte} {p : Protocol} {n : Nat} {c : FrameContext}

/-! ### Match and mask -/

/-- Under the mask 0xFF a row matches one octet. -/
theorem fits_all_iff (b v : Byte) : fits b 0xFF v = true ↔ b = v := by
  have hmask : b &&& 0xFF = b := BitVec.and_allOnes
  rw [fits, hmask, beq_iff_eq]

/-- Under the mask 0x80 bit 7 is left. -/
theorem and_bit7 (b : Byte) : b &&& 0x80 = if b.getLsbD 7 = true then 0x80 else 0 :=
  BitVec.and_twoPow b 7

theorem fits_bit7_set (b : Byte) : fits b 0x80 0x80 = true ↔ b.getLsbD 7 = true := by
  rw [fits, and_bit7]
  split <;> simp_all

theorem fits_bit7_clear (b : Byte) : fits b 0x80 0x00 = true ↔ b.getLsbD 7 = false := by
  rw [fits, and_bit7]
  split <;> simp_all

/-! ### Each family selects a well-formed operation -/

theorem wellFormed_selectSync (p : Protocol) (b : Byte) : (selectSync p b).wellFormed = true := by
  unfold selectSync
  split
  · next hv =>
    cases p
    case vbus | kw | km => exact (fits_all_iff ..).2 (beq_iff_eq.1 hv)
    case p300 =>
      have octet : (b == 0x05 || b == 0x01) = true := hv
      rw [Bool.or_eq_true, beq_iff_eq, beq_iff_eq] at octet
      exact Bool.or_eq_true_iff.2 (octet.imp (fits_all_iff ..).2 (fits_all_iff ..).2)
  · rfl

theorem wellFormed_selectVbus (n : Nat) (b : Byte) (c : FrameContext) : (selectVbus n b c).wellFormed = true := by
  unfold selectVbus
  rw [msb_eq_getLsbD_seven]
  split
  · next h7 => exact (fits_bit7_set b).2 h7
  · next h7 =>
    have hclear := (fits_bit7_clear b).2 (eq_false_of_ne_true h7)
    split_ifs <;> exact hclear

theorem wellFormed_selectKw (n : Nat) (b : Byte) (c : FrameContext) : (selectKw n b c).wellFormed = true := by
  unfold selectKw
  split_ifs <;> rfl

theorem wellFormed_selectP300 (n : Nat) (b : Byte) (c : FrameContext) : (selectP300 n b c).wellFormed = true := by
  unfold selectP300
  split_ifs <;> rfl

/-- The two KM rows with a fixed octet test it themselves: the header's fourth octet and the stop octet (R164, R166). -/
theorem wellFormed_selectKm (hheader : c.kmHeaderOk = true → b = 0x68) (hstop : c.intact = true → b = 0x16) :
    (selectKm n b c).wellFormed = true := by
  unfold selectKm
  split
  · split
    · next hh => exact (fits_all_iff ..).2 (hheader hh)
    · rfl
  split
  · split
    · next hi => exact (fits_all_iff ..).2 (hstop hi)
    · rfl
  split_ifs <;> rfl

theorem wellFormed_selectReceive (h : s.receives p b) :
    (selectReceive p s.nextLen b s.frameContext).wellFormed = true := by
  have hd := h.presents.rxData_eq
  cases p
  case vbus => exact wellFormed_selectVbus ..
  case kw => exact wellFormed_selectKw ..
  case p300 => exact wellFormed_selectP300 ..
  case km =>
    refine wellFormed_selectKm (fun hh => ((State.contextFacts h.presents).kmHeaderOk.1 hh).1) fun hi => ?_
    have hkm : kmIntact s.seen s.nextLen s.rxData = true := by
      simpa only [State.frameContext, State.frameIntact, h.protocol_eq] using hi
    rw [kmIntact, hd, Bool.and_eq_true, beq_iff_eq] at hkm
    exact hkm.1

theorem wellFormed_of_isDecode {i : Instr} (h : i.isDecode = true) : i.wellFormed = true := by
  cases i
  case decVbusDrop | decVbusVitosolic | decVbusBx | decVbusMx | decVbusGeneric | decKw | decP300 | decKmStatus |
      decKmOther => rfl
  all_goals simp [Instr.isDecode, Instr.number] at h

theorem State.selected_wellFormed (s : State) : s.selected.wellFormed = true := by
  obtain h | ⟨h, hp⟩ | ⟨h, hp⟩ | ⟨h, hw⟩ | ⟨h, hw, hr⟩ | ⟨b, h⟩ | ⟨b, h⟩ := s.situation
  · rw [State.selected_of_rst h]; rfl
  · rw [State.selected_of_error h hp]; rfl
  · rw [State.selected_of_decode h hp]
    exact wellFormed_of_isDecode (decodeOps_isDecode _ _ (selectDecode_mem ..))
  · rw [State.selected_of_wdogDue h hw]; rfl
  · rw [State.selected_of_quiet h hw hr]; rfl
  · rw [State.selected_of_sync h]; exact wellFormed_selectSync ..
  · rw [State.selected_of_receive h]; exact wellFormed_selectReceive ⟨h, rfl⟩

/-- Only SYNC and RECEIVE select an operation with an event octet, and they give it the presented one (R71). -/
theorem Selected.head_of_eventOctet {i : Instr} (sel : Selected s i) (h : i.eventOctet = some b) :
    s.ports.rxPending.head? = some b := by
  cases sel with
  | reset | err | wdog | idle => cases h
  | decode _ _ hi => rw [eventOctet_of_isDecode (decodeOps_isDecode _ _ hi)] at h; cases h
  | sync hs hi => rw [← h, syncOps_eventOctet _ _ _ hi]; exact hs.head
  | receive hs hi => rw [← h, receiveOps_eventOctet _ _ _ hi]; exact hs.head

/-- Settles O3: each family's selection fits its row, and an event octet is the one at the head of the byte source. -/
theorem selectedOperationIsWellFormed : Obligations.SelectedOperationIsWellFormed :=
  fun s => ⟨s.selected_wellFormed, fun _ => s.selected_spec.head_of_eventOctet⟩

end Sys2Proof.Machine
end

section
/-! PROOFS. KW, P300 and KM frames whose announced length does not fit the buffer (30_encoding.md R74,
60_exceptions.md R238). -/

namespace Sys2Proof.Machine

variable {s : State} {b : Byte} {p : Protocol}

theorem State.receives.selected_mem (h : s.receives p b) : s.selected ∈ receiveOps p b := by
  rw [h.selected_eq]; exact selectReceive_mem ..

/-- KW (R142, R143): an END row needs the octet at index `len + 2`, which is 255 or more. -/
theorem selected_of_kw_unfitting (h : s.receives .kw b) (hlt : s.writeIdx.toNat < 255)
    (hlen : 253 ≤ (s.seen 1).toNat) : s.selected = .krxStore b ∨ s.selected = .krxOvf b := by
  have row := State.rowCondition_selected (s := s) fun _ => hlt
  have hn : s.nextLen ≤ 255 := hlt
  have hmem := h.selected_mem
  generalize s.selected = i at row hmem
  fin_cases hmem
  · exact .inl rfl
  · obtain ⟨-, -, hend, -⟩ := row; omega
  · obtain ⟨-, -, hend, -⟩ := row; omega
  · exact .inr rfl

/-- P300 (R146, R147): as for KW. -/
theorem selected_of_p300_unfitting (h : s.receives .p300 b) (hlt : s.writeIdx.toNat < 255)
    (hlen : 253 ≤ (s.seen 1).toNat) : s.selected = .prxStore b ∨ s.selected = .prxOvf b := by
  have row := State.rowCondition_selected (s := s) fun _ => hlt
  have hn : s.nextLen ≤ 255 := hlt
  have hmem := h.selected_mem
  generalize s.selected = i at row hmem
  fin_cases hmem
  · exact .inl rfl
  · obtain ⟨-, -, hend, -⟩ := row; omega
  · obtain ⟨-, -, hend, -⟩ := row; omega
  · exact .inr rfl

/-- KM (R166, R167): an END row needs the octet at index `L + 6`; the header rows are the fourth octet's (R162). -/
theorem selected_of_km_unfitting (h : s.receives .km b) (hlt : s.writeIdx.toNat < 255)
    (hlen : 249 ≤ (s.seen 1).toNat) :
    s.selected = .mrxStore b ∨ s.selected = .mrxOvf b ∨
      (s.writeIdx = 3 ∧ (s.selected = .mrxHdrOk b ∨ s.selected = .mrxHdrErr b)) := by
  have row := State.rowCondition_selected (s := s) fun _ => hlt
  have hn : s.nextLen ≤ 255 := hlt
  have fourth (h4 : s.nextLen = 4) : s.writeIdx = 3 := BitVec.eq_of_toNat_eq (Nat.succ.inj h4)
  have hmem := h.selected_mem
  generalize s.selected = i at row hmem
  fin_cases hmem
  · exact .inl rfl
  · obtain ⟨-, h4, -⟩ := row; exact .inr (.inr ⟨fourth h4, .inl rfl⟩)
  · obtain ⟨-, h4, -⟩ := row; exact .inr (.inr ⟨fourth h4, .inr rfl⟩)
  · obtain ⟨-, -, hend, -⟩ := row; omega
  · obtain ⟨-, -, hend, -⟩ := row; omega
  · exact .inr (.inl rfl)

/-- Settles O45: an END row would need an index above 254, and the index of the invariant stays below 255. -/
theorem unfittingLengthNeverCompletes : Obligations.UnfittingLengthNeverCompletes := by
  intro s b inv
  exact ⟨fun h => selected_of_kw_unfitting h (inv.receiveIndex h.presents.phase_eq),
    fun h => selected_of_p300_unfitting h (inv.receiveIndex h.presents.phase_eq),
    fun h => selected_of_km_unfitting h (inv.receiveIndex h.presents.phase_eq)⟩

end Sys2Proof.Machine
end

section
/-! PROOFS. Every selected operation answers a next state from a state of the invariant (30_encoding.md R83,
60_exceptions.md R230), and moves `state` and `write_idx` as the table of R86 says. -/

namespace Sys2Proof.Machine

variable {s t : State} {i : Instr} {b : Byte}

/-! ### Totality -/

theorem blocksInside_iff (s : State) : s.blocksInside = true ↔ s.header.frameCnt.toNat ≤ 41 := by
  rw [State.blocksInside, decide_eq_true_iff]
  show 9 + 6 * s.header.frameCnt.toNat ≤ 255 ↔ _
  omega

/-- A frame that completes below index 255 has at most 41 blocks (R74, R132). -/
theorem Inv.blocksInside (inv : Inv s) (hp : s.phase = .receive) (hlen : s.nextLen + 1 = s.header.frameLen.toNat) :
    s.blocksInside = true := by
  have hlt := inv.receiveIndex hp
  unfold State.nextLen at hlen
  rw [blocksInside_iff]
  obtain hzero | ⟨-, hshape⟩ := inv.headerShape
  · rw [hzero]; decide
  · omega

theorem Inv.storing_next (inv : Inv s) {q : Protocol} (h : s.receives q b) (k : State → State) :
    ∃ t, s.storing b k = .next t :=
  ⟨_, State.storing_of_lt (inv.receiveIndex h.presents.phase_eq)⟩

/-- The operations that can stop are those that store at `write_idx`, and they find a free index and blocks inside the
buffer (20_memory.md R51). -/
theorem Inv.exec_next (inv : Inv s) (row : rowCondition i s) : ∃ t, exec i s = .next t := by
  cases i
  case vrxStore | krxStore | prxStore | mrxStore => exact inv.storing_next row.1 id
  case krxEndOk | prxEndOk | mrxEndOk => exact inv.storing_next row.1 fun t => { t with phase := .decode }
  case krxEndErr | prxEndErr | mrxEndErr => exact inv.storing_next row.1 fun t => t.raiseError _
  case vrxHdrDiscard => rw [exec_vrxHdrDiscard]; exact inv.storing_next row.1 _
  case vrxHdrCrcerr => rw [exec_vrxHdrCrcerr]; exact inv.storing_next row.1 _
  case vrxHdrOk => rw [exec_vrxHdrOk]; exact inv.storing_next row.1 _
  case vrxEndOk =>
    obtain ⟨h, -, -, hlen, -⟩ := row
    rw [exec_vrxEndOk, if_pos (inv.blocksInside h.presents.phase_eq hlen)]
    exact inv.storing_next h _
  case vrxEndCrcerr =>
    obtain ⟨h, -, -, hlen, -⟩ := row
    rw [exec_vrxEndCrcerr, if_pos (inv.blocksInside h.presents.phase_eq hlen)]
    exact inv.storing_next h _
  all_goals exact ⟨_, rfl⟩

/-- Settles O57: the selected operation's row condition holds, so the operation answers a next state. -/
theorem invariantStatesNeverStop : Obligations.InvariantStatesNeverStop := by
  intro s inv
  obtain ⟨u, hu⟩ := inv.exec_next (State.rowCondition_selected inv.receiveIndex)
  exact ⟨_, step_of_exec_next hu⟩

/-! ### The table of R86 -/

/-- A stored octet moves the index up by one, unless what follows the store rewrites it. -/
theorem writeIdx_of_storing {k : State → State} (hx : s.storing b k = .next t)
    (hk : ∀ u, (k u).writeIdx = u.writeIdx) : t.writeIdx.toNat = s.writeIdx.toNat + 1 := by
  obtain ⟨hlt, rfl⟩ := State.storing_eq_next.1 hx
  rw [hk]
  exact State.storeOctet_index (s := s.consume) b hlt

/-- `write_idx` after operation `i`: where the rule writes a number, the row condition fixes `n` to it. -/
theorem writeIdx_of_exec (row : rowCondition i s) (hx : exec i s = .next t) :
    t.writeIdx.toNat = indexAfter i s.writeIdx.toNat := by
  cases i
  case reset | err | idle | syncSkip | syncVbus | syncKw | syncP300 | syncKm | vrxMsb =>
    exact Host.Outcome.next.inj hx ▸ rfl
  case wdog =>
    rw [← Host.Outcome.next.inj hx]
    cases s.wdogRearm <;> rfl
  case vrxHdrDiscard =>
    rw [exec_vrxHdrDiscard] at hx
    obtain ⟨-, rfl⟩ := State.storing_eq_next.1 hx
    rfl
  case vrxHdrCrcerr =>
    obtain ⟨-, -, hn, -⟩ := row
    rw [exec_vrxHdrCrcerr] at hx
    obtain ⟨-, rfl⟩ := State.storing_eq_next.1 hx
    exact hn.symm
  case vrxHdrOk =>
    obtain ⟨-, -, hn, -⟩ := row
    rw [exec_vrxHdrOk] at hx
    obtain ⟨-, rfl⟩ := State.storing_eq_next.1 hx
    exact hn.symm
  case vrxStore | krxStore | prxStore | mrxStore => exact writeIdx_of_storing (k := id) hx fun _ => rfl
  case krxEndOk | prxEndOk | mrxEndOk =>
    exact writeIdx_of_storing (k := fun t => { t with phase := .decode }) hx fun _ => rfl
  case krxEndErr | prxEndErr | mrxEndErr =>
    exact writeIdx_of_storing (k := fun t => t.raiseError _) hx fun _ => rfl
  case vrxEndOk =>
    rw [exec_vrxEndOk] at hx
    exact writeIdx_of_storing (next_of_guard hx) fun _ => rfl
  case vrxEndCrcerr =>
    rw [exec_vrxEndCrcerr] at hx
    exact writeIdx_of_storing (next_of_guard hx) fun _ => rfl
  case vrxOvf =>
    obtain ⟨-, -, hn, -⟩ := row
    exact Host.Outcome.next.inj hx ▸ hn.symm
  case krxOvf | prxOvf | mrxOvf | mrxHdrOk | mrxHdrErr =>
    obtain ⟨-, hn, -⟩ := row
    exact Host.Outcome.next.inj hx ▸ hn.symm
  case decVbusDrop | decVbusVitosolic | decVbusBx | decVbusMx | decVbusGeneric | decKw | decP300 | decKmStatus |
      decKmOther =>
    rw [writeIdx_of_exec_decode rfl hx]
    rfl

/-- Settles O53: `state` by the operation's effect, `write_idx` by its row condition; the step boundary moves
neither. -/
theorem controlTransferTable : Obligations.ControlTransferTable := by
  intro s t inv hstep
  obtain ⟨u, hu, rfl⟩ := exists_exec_of_step hstep
  rw [State.boundary_phase, State.boundary_writeIdx]
  exact ⟨(Effect.of_exec hu).phase_eq s.selected_spec,
    writeIdx_of_exec (State.rowCondition_selected inv.receiveIndex) hu⟩

end Sys2Proof.Machine
end

section
/-! PROOFS. The VBUS frame builder of 30_encoding.md R85: a built block passes its CRC and carries its data octets
(R76, 44_decode_vbus.md R182). -/

namespace Sys2Proof.Machine

/-! ### Lists of octets as readers -/

theorem readerOf_append_left {xs ys : List Byte} {a : Nat} (ha : a < xs.length) :
    readerOf (xs ++ ys) a = readerOf xs a :=
  List.getD_append _ _ _ _ ha

theorem readerOf_append_length (xs : List Byte) (y : Byte) : readerOf (xs ++ [y]) xs.length = y := by
  simp [readerOf]

/-- A list closed by its check octet passes the VBUS CRC (41_vbus_receive.md R121 b). -/
theorem calcCrc_append_vbusCheck (xs : List Byte) :
    calcCrc (readerOf (xs ++ [vbusCheck xs])) 0 (xs.length + 1) = 0 := by
  have body : calcCrc (readerOf (xs ++ [vbusCheck xs])) 0 xs.length = calcCrc (readerOf xs) 0 xs.length :=
    calcCrc_congr fun i hi => readerOf_append_left (by omega)
  have check : (vbusCheck xs).setWidth 7 = calcCrc (readerOf xs) 0 xs.length :=
    BitVec.setWidth_setWidth_of_le _ (by decide)
  rw [calcCrc, body, Nat.zero_add, readerOf_append_length, check]
  exact BitVec.sub_self _

/-! ### The octets of a block -/

/-- The septet of a block: bit 7 of data octet `i` as its bit `i` (R76). -/
def septetOf (d0 d1 d2 d3 : Byte) : Byte :=
  BitVec.ofNat 8 (d0.msb.toNat + 2 * d1.msb.toNat + 4 * d2.msb.toNat + 8 * d3.msb.toNat)

/-- A block without its CRC: the data octets with bit 7 cleared, then the septet (R76). -/
def blockBody (d0 d1 d2 d3 : Byte) : List Byte :=
  [d0 &&& 0x7F, d1 &&& 0x7F, d2 &&& 0x7F, d3 &&& 0x7F, septetOf d0 d1 d2 d3]

theorem vbusBlock_eq (d0 d1 d2 d3 : Byte) :
    vbusBlock d0 d1 d2 d3 = blockBody d0 d1 d2 d3 ++ [vbusCheck (blockBody d0 d1 d2 d3)] := rfl

/-- The septet is below 0x10, and its bits are the four it was built from. -/
theorem septetOf_bits (d0 d1 d2 d3 : Byte) :
    (septetOf d0 d1 d2 d3).toNat < 16 ∧ (septetOf d0 d1 d2 d3).getLsbD 0 = d0.msb ∧
      (septetOf d0 d1 d2 d3).getLsbD 1 = d1.msb ∧ (septetOf d0 d1 d2 d3).getLsbD 2 = d2.msb ∧
      (septetOf d0 d1 d2 d3).getLsbD 3 = d3.msb := by
  unfold septetOf
  generalize d0.msb = m0, d1.msb = m1, d2.msb = m2, d3.msb = m3
  revert m0 m1 m2 m3
  decide

theorem toNat_and_7F_lt (d : Byte) : (d &&& 0x7F).toNat < 128 := by
  rw [BitVec.toNat_and]
  exact Nat.lt_succ_of_le Nat.and_le_right

theorem vbusCheck_lt (xs : List Byte) : (vbusCheck xs).toNat < 128 := by
  rw [vbusCheck, BitVec.toNat_setWidth_of_le (by decide)]
  exact BitVec.isLt _

/-- Clearing bit 7 and putting it back changes nothing. -/
theorem clear_or_restore_bit7 (d : Byte) : d &&& 0x7F ||| (if d.msb = true then 0x80 else 0) = d := by
  rw [msb_eq_getLsbD_seven, ← and_bit7, ← BitVec.and_or_distrib_left]
  exact BitVec.and_allOnes

theorem vbusBlock_lt (d0 d1 d2 d3 : Byte) : ∀ x ∈ vbusBlock d0 d1 d2 d3, x.toNat < 128 := by
  rw [vbusBlock_eq]
  intro x hx
  rcases List.mem_append.1 hx with hx | hx
  · fin_cases hx
    case _ | _ | _ | _ => exact toNat_and_7F_lt _
    exact (septetOf_bits d0 d1 d2 d3).1.trans (by decide)
  · rw [List.mem_singleton.1 hx]
    exact vbusCheck_lt _

/-- Injection gives back an octet whose bit 7 was cleared and stands in the septet (R182). -/
theorem injected_eq {s : State} {o i : Nat} {d : Byte} (hdata : s.octet (o + i) = d &&& 0x7F)
    (hseptet : (s.octet (o + 4)).getLsbD i = d.msb) : injected s o i = d := by
  rw [injected, hdata, hseptet]
  exact clear_or_restore_bit7 d

/-- Settles O39: the check octet closes the block's CRC, and the septet's bits are the cleared ones. -/
theorem builtBlocksPassAndCarryData : Obligations.BuiltBlocksPassAndCarryData := by
  intro d0 d1 d2 d3
  refine ⟨rfl, vbusBlock_lt d0 d1 d2 d3, calcCrc_append_vbusCheck (blockBody d0 d1 d2 d3), fun s h => ?_⟩
  obtain ⟨-, bit0, bit1, bit2, bit3⟩ := septetOf_bits d0 d1 d2 d3
  have septet : s.octet (9 + 4) = septetOf d0 d1 d2 d3 := h 4 (by decide)
  rw [← septet] at bit0 bit1 bit2 bit3
  exact ⟨injected_eq (h 0 (by decide)) bit0, injected_eq (h 1 (by decide)) bit1, injected_eq (h 2 (by decide)) bit2,
    injected_eq (h 3 (by decide)) bit3⟩

end Sys2Proof.Machine
end

section
/-! PROOFS. The situations of `State.place` (log entry 9): what is presented and stored in each, and that every
well-formed operation's row condition of 30_encoding.md R81 holds in its own. -/

namespace Sys2Proof.Machine

variable (s : State) (p : Protocol) (octets : List Byte) (b : Byte) {a : Nat}

/-! ### A buffer made of a list of octets -/

theorem FrameBuffer.read?_zipIdx (octets : List Byte) (k a : Nat) :
    FrameBuffer.read? ((octets.zipIdx k).map fun c => (c.2, c.1)) (k + a) = octets[a]? := by
  induction octets generalizing k a with
  | nil => rfl
  | cons x xs ih =>
    rw [List.zipIdx_cons, List.map_cons, FrameBuffer.read?_cons]
    cases a with
    | zero => simp
    | succ a =>
      have hne : k ≠ k + (a + 1) := by omega
      rw [if_neg hne, List.getElem?_cons_succ, ← ih (k + 1) a, Nat.succ_add_eq_add_succ]

theorem State.octet_of_list {t : State} (hbuf : t.buf = octets.zipIdx.map fun c => (c.2, c.1))
    (ha : a < octets.length) : t.octet a = readerOf octets a := by
  have hread := FrameBuffer.read?_zipIdx octets 0 a
  rw [Nat.zero_add] at hread
  rw [State.octet, hbuf, hread, List.getElem?_eq_getElem ha, Option.getD_some, readerOf, List.getD_eq_getElem _ _ ha]

/-! ### What each situation presents and stores -/

theorem State.placeSync_presents : (s.placeSync p b).presents .sync b :=
  ⟨rfl, rfl, State.wdogDue_of_eq rfl, rfl⟩

theorem State.placeReceive_receives : (s.placeReceive p octets b).receives p b :=
  ⟨⟨rfl, rfl, State.wdogDue_of_eq rfl, rfl⟩, rfl⟩

theorem State.placeBlockEnd_receives (septet : Byte) : (s.placeBlockEnd septet b).receives .vbus b :=
  ⟨⟨rfl, rfl, State.wdogDue_of_eq rfl, rfl⟩, rfl⟩

theorem State.placeFull_receives : (s.placeFull p octets b).receives p b :=
  ⟨⟨rfl, rfl, State.wdogDue_of_eq rfl, rfl⟩, rfl⟩

theorem State.placeDecode_decodes (cmd src : Half) : (s.placeDecode p cmd src octets).decodes p := ⟨rfl, rfl, rfl⟩

theorem State.octet_placeDecode (cmd src : Half) (ha : a < octets.length) :
    (s.placeDecode p cmd src octets).octet a = readerOf octets a :=
  State.octet_of_list octets rfl ha

/-- In RECEIVE the frame seen is the stored octets, then the presented one (R81). -/
theorem State.seen_placeReceive (hlen : octets.length < 256) (ha : a ≤ octets.length) :
    (s.placeReceive p octets b).seen a = readerOf (octets ++ [b]) a := by
  have hidx : (s.placeReceive p octets b).writeIdx.toNat = octets.length := Nat.mod_eq_of_lt hlen
  rw [State.seen, hidx]
  split
  · next h => rw [h, readerOf_append_length]; rfl
  · next h =>
    have hlt : a < octets.length := Nat.lt_of_le_of_ne ha h
    rw [State.octet_of_list octets rfl hlt, readerOf_append_left hlt]

/-- With a full buffer the opening of the frame is seen as it was stored. -/
theorem State.seen_placeFull (ha : a < octets.length) (hfull : a ≠ 254) :
    (s.placeFull p octets b).seen a = readerOf octets a := by
  rw [State.seen]
  exact (if_neg hfull).trans (State.octet_of_list octets rfl ha)

/-! ### The octets and checks of the placed frames -/

/-- The length octet of KW, P300 and KM (R74). -/
theorem State.seen_placeReceive_one (x y : Byte) (rest : List Byte) (hlen : rest.length < 254) :
    (s.placeReceive p (x :: y :: rest) b).seen 1 = y :=
  s.seen_placeReceive p (x :: y :: rest) b (by simp only [List.length_cons]; omega) (Nat.le_add_left 1 _)

theorem State.seen_placeReceive_two (x y z : Byte) (rest : List Byte) (hlen : rest.length < 253) :
    (s.placeReceive p (x :: y :: z :: rest) b).seen 2 = z :=
  s.seen_placeReceive p (x :: y :: z :: rest) b (by simp only [List.length_cons]; omega) (Nat.le_add_left 2 _)

theorem State.seen_placeFull_one (x y : Byte) (rest : List Byte) :
    (s.placeFull p (x :: y :: rest) b).seen 1 = y :=
  s.seen_placeFull p (x :: y :: rest) b (Nat.succ_lt_succ (Nat.succ_pos _)) (by decide)

theorem State.seen_placeHeader_version (version crc : Byte) :
    (s.placeHeader version crc b).seen 4 >>> 4 = version >>> 4 :=
  congrArg (fun v : Byte => v >>> 4) (s.seen_placeReceive .vbus _ b (by simp) (show 4 ≤ 10 by decide))

/-- The header CRC of `State.placeHeader` (R125). -/
theorem State.calcCrc_placeHeader (version crc : Byte) :
    calcCrc (s.placeHeader version crc b).seen 0 9 = 0x7F - version.setWidth 7 - crc.setWidth 7 := by
  have seen : ∀ i < 9, (s.placeHeader version crc b).seen (0 + i) =
      readerOf [0, 0, 0, 0, version, 0, 0, 0, crc, 0, b] (0 + i) :=
    fun i hi => s.seen_placeReceive .vbus _ b (by simp) (show 0 + i ≤ 10 by omega)
  rw [calcCrc_congr seen]
  simp [calcCrc, readerOf]

/-- The block CRC of `State.placeBlockEnd` (R128). -/
theorem State.calcCrc_placeBlockEnd (septet : Byte) :
    calcCrc (s.placeBlockEnd septet b).seen 9 6 = 0x7F - septet.setWidth 7 - b.setWidth 7 := by
  have seen : ∀ i < 6, (s.placeBlockEnd septet b).seen (9 + i) =
      readerOf [0, 0, 0, 0, 0x10, 0, 0, 1, 0x6E, 0, 0, 0, 0, septet, b] (9 + i) :=
    fun i hi => s.seen_placeReceive .vbus _ b (by simp) (show 9 + i ≤ 14 by omega)
  rw [calcCrc_congr seen]
  simp [calcCrc, readerOf]

/-- A frame of KW or P300 of one payload octet completes with the octet presented (R74). -/
theorem State.nextLen_placeReceive (x z : Byte) :
    (s.placeReceive p [x, 0x01, z] b).nextLen = ((s.placeReceive p [x, 0x01, z] b).seen 1).toNat + 3 := by
  rw [s.seen_placeReceive_one p b x 0x01 [z] (by simp)]
  rfl

/-- A KM frame of an empty record completes with the octet presented (R74). -/
theorem State.nextLen_placeReceive_km (x : Byte) :
    (s.placeReceive .km [0x68, 0x00, 0x00, 0x68, x, 0x00] b).nextLen =
      ((s.placeReceive .km [0x68, 0x00, 0x00, 0x68, x, 0x00] b).seen 1).toNat + 7 := by
  rw [s.seen_placeReceive_one .km b 0x68 0x00 [0x00, 0x68, x, 0x00] (by simp)]
  rfl

theorem State.xorRange_placeReceive (x y z : Byte) :
    xorRange (s.placeReceive p [x, y, z] b).seen 0 3 = x ^^^ y ^^^ z := by
  have seen : ∀ i < 3, (s.placeReceive p [x, y, z] b).seen (0 + i) = readerOf [x, y, z, b] (0 + i) :=
    fun i hi => s.seen_placeReceive p [x, y, z] b (by simp) (show 0 + i ≤ 3 by omega)
  rw [xorRange_congr seen]
  simp [xorRange, readerOf]

theorem State.sum8Range_placeReceive (x y z : Byte) :
    sum8Range (s.placeReceive p [x, y, z] b).seen 0 3 = x + y + z := by
  have seen : ∀ i < 3, (s.placeReceive p [x, y, z] b).seen (0 + i) = readerOf [x, y, z, b] (0 + i) :=
    fun i hi => s.seen_placeReceive p [x, y, z] b (by simp) (show 0 + i ≤ 3 by omega)
  rw [sum8Range_congr seen]
  simp [sum8Range, readerOf]

theorem crc16km_zero (rd : Nat → Byte) (off : Nat) : crc16km rd off 0 = 0 :=
  show (0 : Half).reverse = 0 by decide

/-- The CRC of an empty KM record is 0; `x` is the low octet of the one the frame carries (R166). -/
theorem State.kmGood_placeReceive (x : Byte) :
    (s.placeReceive .km [0x68, 0x00, 0x00, 0x68, x, 0x00] b).kmGood b ↔ b = 0x16 ∧ x = 0 := by
  have seen : ∀ a ≤ 6, (s.placeReceive .km [0x68, 0x00, 0x00, 0x68, x, 0x00] b).seen a =
      readerOf [0x68, 0x00, 0x00, 0x68, x, 0x00, b] a :=
    fun a ha => s.seen_placeReceive .km _ b (by simp) ha
  have hn : (s.placeReceive .km [0x68, 0x00, 0x00, 0x68, x, 0x00] b).nextLen = 7 := rfl
  have carried : (0 : Half) = (0 : Byte) ++ x ↔ x = 0 :=
    (BitVec.append_right_inj (t₁ := (0 : Byte)) (t₂ := x) (0 : Byte)).trans eq_comm
  rw [State.kmGood, hn, seen 1 (by decide), seen 5 (by decide), seen 4 (by decide)]
  exact and_congr_right fun _ => (crc16km_zero _ 4).symm ▸ carried

/-! ### The row conditions, by family -/

variable {b} {i : Instr}

/-- Every VBUS row but VRX.MSB. -/
theorem rowCondition_place_vbus (hi : i ∈ (receiveOps .vbus b).tail) (h7 : b.getLsbD 7 = false) :
    rowCondition i (s.place i) := by
  fin_cases hi
  · refine ⟨s.placeReceive_receives .vbus _ b, h7, rfl, ?_⟩
    exact ne_of_eq_of_ne (s.seen_placeHeader_version b 0x00 0x00) (by decide)
  · refine ⟨s.placeReceive_receives .vbus _ b, h7, rfl, s.seen_placeHeader_version b 0x10 0x00, ?_⟩
    exact ne_of_eq_of_ne (s.calcCrc_placeHeader b 0x10 0x00) (by decide)
  · exact ⟨s.placeReceive_receives .vbus _ b, h7, rfl, s.seen_placeHeader_version b 0x10 0x6F,
      s.calcCrc_placeHeader b 0x10 0x6F⟩
  · exact ⟨s.placeReceive_receives .vbus [] b, h7, show 1 ≠ 11 by decide,
      fun h => absurd h.1 (show ¬11 < 1 by decide), show 1 < 255 by decide⟩
  · refine ⟨s.placeBlockEnd_receives b _, h7, show 11 < 15 by decide, rfl, fun k hk => ?_⟩
    obtain rfl : k = 0 := Nat.lt_one_iff.1 hk
    refine (s.calcCrc_placeBlockEnd b _).trans ?_
    bv_omega
  · refine ⟨s.placeBlockEnd_receives b _, h7, show 11 < 15 by decide, rfl, 0, Nat.one_pos, ?_⟩
    refine ne_of_eq_of_ne (s.calcCrc_placeBlockEnd b _) ?_
    bv_omega
  · exact ⟨s.placeFull_receives .vbus [] b, h7, rfl, show 256 ≠ 0 by decide⟩

/-- The length octet of `State.placeFull` leaves the frame incomplete at index 254. -/
theorem placeFull_incomplete {q : Protocol} {x : Byte} {rest : List Byte} (k : Nat) (hk : 0 < k) :
    (s.placeFull q (x :: 0xFF :: rest) b).nextLen ≠ ((s.placeFull q (x :: 0xFF :: rest) b).seen 1).toNat + k := by
  rw [s.seen_placeFull_one]
  show 255 ≠ 255 + k
  omega

theorem rowCondition_place_kw (hi : i ∈ receiveOps .kw b) : rowCondition i (s.place i) := by
  fin_cases hi
  · refine ⟨s.placeReceive_receives .kw [0x01] b, fun h => ?_, show 2 < 255 by decide⟩
    have hn : 2 = _ + 3 := h.2
    omega
  · exact ⟨s.placeReceive_receives .kw _ b, show 2 ≤ 4 by decide, s.nextLen_placeReceive .kw b 0x01 b,
      (s.xorRange_placeReceive .kw b 0x01 0x01 b).trans (by simp)⟩
  · exact ⟨s.placeReceive_receives .kw _ b, show 2 ≤ 4 by decide, s.nextLen_placeReceive .kw b 0x01 (b ^^^ 1),
      ne_of_eq_of_ne (s.xorRange_placeReceive .kw b 0x01 0x01 (b ^^^ 1)) (by simp)⟩
  · exact ⟨s.placeFull_receives .kw _ b, rfl, placeFull_incomplete s 3 (by decide)⟩

theorem rowCondition_place_p300 (hi : i ∈ receiveOps .p300 b) : rowCondition i (s.place i) := by
  fin_cases hi
  · refine ⟨s.placeReceive_receives .p300 [0x05] b, fun h => ?_, show 2 < 255 by decide⟩
    have hn : 2 = _ + 3 := h.2
    omega
  · exact ⟨s.placeReceive_receives .p300 _ b, show 2 ≤ 4 by decide, s.nextLen_placeReceive .p300 b 0x05 (b - 6),
      (s.sum8Range_placeReceive .p300 b 0x05 0x01 (b - 6)).trans (by bv_omega)⟩
  · exact ⟨s.placeReceive_receives .p300 _ b, show 2 ≤ 4 by decide, s.nextLen_placeReceive .p300 b 0x05 (b - 5),
      ne_of_eq_of_ne (s.sum8Range_placeReceive .p300 b 0x05 0x01 (b - 5)) (by bv_omega)⟩
  · exact ⟨s.placeFull_receives .p300 _ b, rfl, placeFull_incomplete s 3 (by decide)⟩

theorem rowCondition_place_km (hi : i ∈ receiveOps .km b) (hwf : i.wellFormed = true) :
    rowCondition i (s.place i) := by
  fin_cases hi
  · refine ⟨s.placeReceive_receives .km [0x68] b, show 2 ≠ 4 by decide, fun h => ?_, show 2 < 255 by decide⟩
    exact absurd h.1 (show ¬4 < 2 by decide)
  · exact ⟨s.placeReceive_receives .km _ b, rfl, (fits_all_iff b 0x68).1 hwf,
      (s.seen_placeReceive_one .km b 0x68 0x00 [0x00] (by decide)).trans
        (s.seen_placeReceive_two .km b 0x68 0x00 0x00 [] (by decide)).symm⟩
  · refine ⟨s.placeReceive_receives .km _ b, rfl, .inr ?_⟩
    refine ne_of_eq_of_ne (s.seen_placeReceive_one .km b 0x68 0x00 [0x01] (by decide)) ?_
    exact ne_of_ne_of_eq (by decide) (s.seen_placeReceive_two .km b 0x68 0x00 0x01 [] (by decide)).symm
  · exact ⟨s.placeReceive_receives .km _ b, show 4 < 7 by decide, s.nextLen_placeReceive_km b 0x00,
      (s.kmGood_placeReceive b 0x00).2 ⟨(fits_all_iff b 0x16).1 hwf, rfl⟩⟩
  · exact ⟨s.placeReceive_receives .km _ b, show 4 < 7 by decide, s.nextLen_placeReceive_km b 0x01,
      fun hgood => absurd ((s.kmGood_placeReceive b 0x01).1 hgood).2 (by decide)⟩
  · exact ⟨s.placeFull_receives .km _ b, rfl, placeFull_incomplete s 7 (by decide)⟩

/-- A skipped octet is no sync value of the protocol it is placed under (R73). -/
theorem rowCondition_place_syncSkip : rowCondition (.syncSkip b) (s.place (.syncSkip b)) := by
  refine ⟨s.placeSync_presents _ b, ?_⟩
  by_cases hb : b = 0xAA
  · have hkw : b ≠ 0x01 := by rw [hb]; decide
    exact .inr (.inl ⟨if_pos hb, hkw⟩)
  · exact .inl ⟨if_neg hb, hb⟩

theorem wdogDue_place_wdog : (s.place .wdog).wdogDue = true := by
  have elapsed : (s.lastProgressMs + 20001 - s.lastProgressMs).toNat = 20001 := by bv_omega
  exact decide_eq_true (elapsed ▸ by decide)

theorem isStatusRecord_place : (s.place .decKmStatus).isStatusRecord := by
  have octet : ∀ a < 8, (s.place .decKmStatus).octet a =
      readerOf [0x68, 0x0F, 0x0F, 0x68, 0xBF, 0, 0, 0x1C] a :=
    fun a ha => s.octet_placeDecode .km _ 0 0 ha
  rw [State.isStatusRecord, octet 1 (by decide), octet 4 (by decide), octet 7 (by decide)]
  decide

/-- The length octet of the other placed KM record is 0. -/
theorem not_isStatusRecord_place : ¬ (s.place .decKmOther).isStatusRecord := by
  have octet : (s.place .decKmOther).octet 1 = 0x00 :=
    s.octet_placeDecode .km [0x68, 0x00, 0x00, 0x68, 0x00, 0x00, 0x16] 0 0 (by decide)
  rintro ⟨hlen, -⟩
  rw [octet] at hlen
  exact absurd hlen (by decide)

/-- Every well-formed operation's row condition holds in its situation. -/
theorem rowCondition_place (hwf : i.wellFormed = true) : rowCondition i (s.place i) := by
  cases i
  case reset => exact rfl
  case err => exact ⟨rfl, rfl⟩
  case wdog => exact ⟨⟨rfl, .inl rfl⟩, wdogDue_place_wdog s⟩
  case idle => exact ⟨⟨rfl, .inl rfl⟩, State.wdogDue_of_eq rfl, rfl⟩
  case syncSkip b => exact rowCondition_place_syncSkip s
  case syncVbus b | syncKw b | syncKm b => exact ⟨s.placeSync_presents _ b, rfl, (fits_all_iff ..).1 hwf⟩
  case syncP300 b =>
    exact ⟨s.placeSync_presents _ b, rfl, (Bool.or_eq_true_iff.1 hwf).imp (fits_all_iff ..).1 (fits_all_iff ..).1⟩
  case vrxMsb b => exact ⟨s.placeReceive_receives .vbus [] b, (fits_bit7_set b).1 hwf⟩
  case vrxHdrDiscard b | vrxHdrCrcerr b | vrxHdrOk b | vrxStore b | vrxEndOk b | vrxEndCrcerr b | vrxOvf b =>
    exact rowCondition_place_vbus s (by simp [receiveOps]) ((fits_bit7_clear b).1 hwf)
  case krxStore b | krxEndOk b | krxEndErr b | krxOvf b => exact rowCondition_place_kw (b := b) s (by simp [receiveOps])
  case prxStore b | prxEndOk b | prxEndErr b | prxOvf b =>
    exact rowCondition_place_p300 (b := b) s (by simp [receiveOps])
  case mrxStore b | mrxHdrOk b | mrxHdrErr b | mrxEndOk b | mrxEndErr b | mrxOvf b =>
    exact rowCondition_place_km (b := b) s (by simp [receiveOps]) hwf
  case decVbusDrop => exact ⟨s.placeDecode_decodes .vbus _ _ _, show (0 : Half) ≠ 0x0100 by decide⟩
  case decVbusVitosolic | decVbusMx => exact ⟨s.placeDecode_decodes .vbus _ _ _, rfl, rfl⟩
  case decVbusBx => exact ⟨s.placeDecode_decodes .vbus _ _ _, rfl, .inl rfl⟩
  case decVbusGeneric =>
    have other : (0 : Half) ≠ 0x1060 ∧ (0 : Half) ≠ 0x7E11 ∧ (0 : Half) ≠ 0x7E21 ∧ (0 : Half) ≠ 0x7E31 := by decide
    exact ⟨s.placeDecode_decodes .vbus _ _ _, rfl, other⟩
  case decKw | decP300 => exact s.placeDecode_decodes _ _ _ _
  case decKmStatus => exact ⟨s.placeDecode_decodes .km _ _ _, isStatusRecord_place s⟩
  case decKmOther => exact ⟨s.placeDecode_decodes .km _ _ _, not_isStatusRecord_place s⟩

/-- Settles O7: the operation's row condition holds in its situation, and a row condition decides the selection. -/
theorem everyOperationIsSelectable : Obligations.EveryOperationIsSelectable :=
  fun _ s hwf => State.selected_of_rowCondition (rowCondition_place s hwf)

end Sys2Proof.Machine
end

section
/-! PROOFS. The operations of 40_system_sync.md that wait for a frame and start one: IDLE (R101) and the SYNC operations
(R102 to R106). -/

namespace Sys2Proof.Machine

variable {s t : State} {b : Byte} {i : Instr}

/-! ### The frame of a consuming operation -/

/-- An operation that carries an event octet consumes one (R22, R71) and leaves alone what only other operations write
(R25, R28, R32, R45). -/
theorem Effect.receiveFrame (e : Effect i s t) (h : i.eventOctet = some b) : ReceiveFrame s t := by
  have hreset : i ≠ .reset := reset_ne_of_eventOctet h
  have hdecode : i.isDecode = false := isDecode_of_eventOctet h
  have herr : i ≠ .err := by rintro rfl; cases h
  have hwdog : i ≠ .wdog := by rintro rfl; cases h
  obtain ⟨hrearm, henv, hresets⟩ := e.model
  refine ⟨?protocol, ?lastProgress, ⟨?ready, ?busOk⟩, e.snapshot hreset hdecode, ?ports, hrearm, henv, ?resets⟩
  case protocol => rw [e.protocol, if_neg hreset]
  case lastProgress => rw [e.lastProgress, if_neg (by simp [hreset, hdecode, hwdog])]
  case ready => rw [e.ready, if_neg (by simp [hreset, herr]), if_neg (by simp [hdecode])]
  case busOk => rw [e.busOk, if_neg herr, if_neg (by simp [hreset, hdecode])]
  case ports => rw [e.ports, if_pos (by rw [h]; rfl)]
  case resets => rw [hresets, if_neg hreset]

/-! ### Starting a frame with a stored octet -/

/-- The first octet of a frame lands at index 0 and nowhere else. -/
theorem State.storedAt_startFrame (s : State) (b : Byte) : StoredAt 0 b s (s.consume.startFrame b) :=
  ⟨by rw [State.octet_startFrame, if_pos rfl], fun x hx => by rw [State.octet_startFrame, if_neg hx]; rfl⟩

/-- SYNC.KW, SYNC.P300 and SYNC.KM are one operation under three protocols (R104, R105, R106). -/
theorem exec_eq_startFrame (hi : i ∈ [Instr.syncKw b, Instr.syncP300 b, Instr.syncKm b]) :
    exec i s = .next (s.consume.startFrame b) ∧ i.eventOctet = some b := by
  simp only [List.mem_cons, List.not_mem_nil, or_false] at hi
  obtain rfl | rfl | rfl := hi
  · exact ⟨exec_syncKw s b, rfl⟩
  · exact ⟨exec_syncP300 s b, rfl⟩
  · exact ⟨exec_syncKm s b, rfl⟩

/-- Settles O13: each of the three starts a frame, whose fields are those of `State.startFrame`; the rest is the frame of
a consuming operation. -/
theorem syncStoresFirstOctet : Obligations.SyncStoresFirstOctet := by
  intro s b i hi
  obtain ⟨hexec, hoctet⟩ := exec_eq_startFrame (s := s) hi
  exact ⟨_, hexec, rfl, rfl, rfl, (Effect.of_exec hexec).receiveFrame hoctet, s.storedAt_startFrame b⟩

/-! ### Operations that store nothing -/

/-- Settles O11: IDLE answers the state it got; SYNC.SKIP consumes, and consuming touches the ports only. -/
theorem idleAndSkipChangeNothing : Obligations.IdleAndSkipChangeNothing := by
  intro s b
  have hskip : exec (.syncSkip b) s = .next s.consume := exec_syncSkip s b
  exact ⟨exec_idle s, _, hskip, State.consume_phase s, State.consume_writeIdx s, State.consume_header s,
    (Effect.of_exec hskip).receiveFrame rfl, s.octet_consume⟩

/-- Settles O12: header, index and phase are what SYNC.VBUS writes; the buffer is not among them, so it reads as
before. -/
theorem syncVbusStartsFrame : Obligations.SyncVbusStartsFrame := by
  intro s b
  have hexec := exec_syncVbus s b
  exact ⟨_, hexec, rfl, rfl, rfl, (Effect.of_exec hexec).receiveFrame rfl, State.octet_congr rfl rfl⟩

end Sys2Proof.Machine
end

section
/-! PROOFS. The RECEIVE operations that VBUS, KW, P300 and KM have in common (41_vbus_receive.md R127 to R130,
42_kw_p300_receive.md R141 to R148, 43_kmbus_receive.md R163, R166 to R168): each appends its octet and goes on, ends
the frame well or badly, or fills the buffer. With them the one operation that stores nothing, VRX.MSB (R122). -/

namespace Sys2Proof.Machine

variable {s : State} {b : Byte} {i : Instr}

/-! ### The octet at `write_idx` -/

theorem State.storedAt_storeOctet (s : State) (b : Byte) : StoredAt s.writeIdx.toNat b s (s.consume.storeOctet b) :=
  ⟨by rw [State.octet_storeOctet]; exact if_pos rfl, fun x hx => by rw [State.octet_storeOctet]; exact if_neg hx⟩

/-- The octet that fills the buffer lands at index 254 and nowhere else. -/
theorem State.storedAt_storeLast (s : State) (b : Byte) : StoredAt 254 b s (s.consume.storeLast b) :=
  ⟨by rw [State.octet_storeLast, if_pos rfl], fun x hx => by rw [State.octet_storeLast, if_neg hx]; rfl⟩

/-! ### Appending an octet and moving to a phase -/

/-- STORE, END.OK and END.ERR append their octet and differ in the phase `p` they leave behind. -/
theorem appends_of_exec {p : Phase} (hlt : s.writeIdx.toNat < 255) (hoctet : i.eventOctet = some b)
    (hexec : exec i s = .next { s.consume.storeOctet b with phase := p }) :
    ∃ t, exec i s = .next t ∧ t.writeIdx.toNat = s.writeIdx.toNat + 1 ∧ t.phase = p ∧ t.header = s.header ∧
      ReceiveFrame s t ∧ StoredAt s.writeIdx.toNat b s t :=
  ⟨_, hexec, State.storeOctet_index (s := s.consume) b hlt, rfl, rfl, (Effect.of_exec hexec).receiveFrame hoctet,
    s.storedAt_storeOctet b⟩

/-- VRX.STORE, KRX.STORE, PRX.STORE and MRX.STORE are one operation under four protocols. -/
theorem exec_eq_store (hi : i ∈ [Instr.vrxStore b, Instr.krxStore b, Instr.prxStore b, Instr.mrxStore b])
    (hlt : s.writeIdx.toNat < 255) : i.eventOctet = some b ∧ exec i s = .next (s.consume.storeOctet b) := by
  have stored : s.storing b id = .next (s.consume.storeOctet b) := State.storing_of_lt hlt
  simp only [List.mem_cons, List.not_mem_nil, or_false] at hi
  obtain rfl | rfl | rfl | rfl := hi <;> exact ⟨rfl, stored⟩

/-- The END.OK operations are one under four protocols, once the blocks of a VBUS frame are known to fit. -/
theorem exec_eq_endOk (hi : i ∈ [Instr.vrxEndOk b, Instr.krxEndOk b, Instr.prxEndOk b, Instr.mrxEndOk b])
    (hlt : s.writeIdx.toNat < 255) (hblocks : i = .vrxEndOk b → s.header.frameCnt.toNat ≤ 41) :
    i.eventOctet = some b ∧ exec i s = .next { s.consume.storeOctet b with phase := .decode } := by
  have stored : s.storing b (fun t => { t with phase := .decode }) =
      .next { s.consume.storeOctet b with phase := .decode } := State.storing_of_lt hlt
  simp only [List.mem_cons, List.not_mem_nil, or_false] at hi
  obtain rfl | rfl | rfl | rfl := hi
  · exact ⟨rfl, by rw [exec_vrxEndOk, if_pos ((blocksInside_iff s).2 (hblocks rfl)), stored]⟩
  all_goals exact ⟨rfl, stored⟩

/-- The failing END operations are one under four protocols: the cause they raise with is stored nowhere (R231). -/
theorem exec_eq_endErr (hi : i ∈ [Instr.vrxEndCrcerr b, Instr.krxEndErr b, Instr.prxEndErr b, Instr.mrxEndErr b])
    (hlt : s.writeIdx.toNat < 255) (hblocks : i = .vrxEndCrcerr b → s.header.frameCnt.toNat ≤ 41) :
    i.eventOctet = some b ∧ exec i s = .next { s.consume.storeOctet b with phase := .error } := by
  have stored (c : Cause) : s.storing b (fun t => t.raiseError c) =
      .next { s.consume.storeOctet b with phase := .error } := State.storing_of_lt hlt
  simp only [List.mem_cons, List.not_mem_nil, or_false] at hi
  obtain rfl | rfl | rfl | rfl := hi
  · exact ⟨rfl, by rw [exec_vrxEndCrcerr, if_pos ((blocksInside_iff s).2 (hblocks rfl)), stored]⟩
  all_goals exact ⟨rfl, stored _⟩

/-- VRX.OVF, KRX.OVF, PRX.OVF and MRX.OVF are one operation under four protocols. -/
theorem exec_eq_overflow (hi : i ∈ [Instr.vrxOvf b, Instr.krxOvf b, Instr.prxOvf b, Instr.mrxOvf b]) :
    i.eventOctet = some b ∧ exec i s = .next ((s.consume.storeLast b).raiseError .overflow) := by
  simp only [List.mem_cons, List.not_mem_nil, or_false] at hi
  obtain rfl | rfl | rfl | rfl := hi
  · exact ⟨rfl, exec_vrxOvf s b⟩
  · exact ⟨rfl, exec_krxOvf s b⟩
  · exact ⟨rfl, exec_prxOvf s b⟩
  · exact ⟨rfl, exec_mrxOvf s b⟩

/-! ### The statements -/

/-- Settles O14: a STORE operation appends its octet and leaves the phase as it is. -/
theorem storeAppendsOctet : Obligations.StoreAppendsOctet := by
  intro s b i hi hlt
  obtain ⟨hoctet, hexec⟩ := exec_eq_store hi hlt
  exact appends_of_exec hlt hoctet hexec

/-- Settles O15: an END.OK operation appends its octet and leaves DECODE behind. -/
theorem endOkEntersDecode : Obligations.EndOkEntersDecode := by
  intro s b i hi hlt hblocks
  obtain ⟨hoctet, hexec⟩ := exec_eq_endOk hi hlt hblocks
  exact appends_of_exec hlt hoctet hexec

/-- Settles O16: a failing END operation appends its octet and leaves ERROR behind. -/
theorem endErrRaises : Obligations.EndErrRaises := by
  intro s b i hi hlt hblocks
  obtain ⟨hoctet, hexec⟩ := exec_eq_endErr hi hlt hblocks
  exact appends_of_exec hlt hoctet hexec

/-- Settles O17: the store at index 254 is that of `State.storeLast`, and raising the Error moves the phase only. -/
theorem overflowFillsBufferAndRaises : Obligations.OverflowFillsBufferAndRaises := by
  intro s b i hi
  obtain ⟨hoctet, hexec⟩ := exec_eq_overflow (s := s) hi
  exact ⟨_, hexec, rfl, rfl, rfl, (Effect.of_exec hexec).receiveFrame hoctet, s.storedAt_storeLast b⟩

/-- Settles O18: consuming touches the ports and raising the Error the phase; neither touches index or buffer. -/
theorem msbOctetRaises : Obligations.MsbOctetRaises := by
  intro s b
  have hexec := exec_vrxMsb s b
  exact ⟨_, hexec, rfl, rfl, rfl, (Effect.of_exec hexec).receiveFrame rfl, s.octet_consume⟩

end Sys2Proof.Machine
end

section
/-! PROOFS. The VBUS header (41_vbus_receive.md R123 to R126) and the frame count it announces: what the three header
operations latch, and that a frame of 0 or more than 41 blocks never completes (R132). -/

namespace Sys2Proof.Machine

variable {s : State} {b : Byte} {i : Instr}

/-! ### The header registers -/

/-- `proto_ver` is the high nibble of its octet (R123). -/
theorem headerOf_protoVer_toNat (rd : Nat → Byte) : (headerOf rd).protoVer.toNat = (rd 4).toNat / 16 := by
  have := (rd 4).isLt
  simp only [headerOf, BitVec.toNat_setWidth, BitVec.toNat_ushiftRight, Nat.shiftRight_eq_div_pow]
  omega

/-- What the three header operations have in common: the octet is stored, and the header is decoded from the buffer
with it in place. They differ in phase and index. -/
theorem exec_header (hi : i ∈ [Instr.vrxHdrDiscard b, Instr.vrxHdrCrcerr b, Instr.vrxHdrOk b])
    (hlt : s.writeIdx.toNat < 255) :
    ∃ t, exec i s = .next t ∧ i.eventOctet = some b ∧ (∀ a, t.octet a = (s.consume.storeOctet b).octet a) ∧
      t.header = headerOf t.octet ∧
      (i = .vrxHdrDiscard b → t.phase = .sync ∧ t.writeIdx = 0) ∧
      (i = .vrxHdrCrcerr b → t.phase = .error ∧ t.writeIdx = 11) ∧
      (i = .vrxHdrOk b → t.phase = s.phase ∧ t.writeIdx = 11) := by
  simp only [List.mem_cons, List.not_mem_nil, or_false] at hi
  obtain rfl | rfl | rfl := hi
  · exact ⟨_, (exec_vrxHdrDiscard s b).trans (State.storing_of_lt hlt), rfl, fun _ => rfl, rfl, fun _ => ⟨rfl, rfl⟩,
      nofun, nofun⟩
  · exact ⟨_, (exec_vrxHdrCrcerr s b).trans (State.storing_of_lt hlt), rfl, fun _ => rfl, rfl, nofun,
      fun _ => ⟨rfl, rfl⟩, nofun⟩
  · exact ⟨_, (exec_vrxHdrOk s b).trans (State.storing_of_lt hlt), rfl, fun _ => rfl, rfl, nofun, nofun,
      fun _ => ⟨rfl, rfl⟩⟩

/-- Settles O19: the registers are those of `headerOf` on the buffer after the store. -/
theorem headerOperationsLatchHeader : Obligations.HeaderOperationsLatchHeader := by
  intro s b i hi hlt
  obtain ⟨t, hexec, hoctet, hbuf, hheader, hphase⟩ := exec_header hi hlt
  obtain ⟨hstored, hother⟩ := s.storedAt_storeOctet b
  refine ⟨t, hexec, (Effect.of_exec hexec).receiveFrame hoctet,
    ⟨(hbuf _).trans hstored, fun x hx => (hbuf x).trans (hother x hx)⟩, ?_⟩
  rw [hheader]
  exact ⟨le16_toNat .., le16_toNat .., headerOf_protoVer_toNat _, le16_toNat .., rfl, headerOf_frameLen, hphase⟩

/-! ### The announced frame count -/

/-- A VBUS frame that completes has 1 to 41 blocks: past the header the length is more than the 10 octets of a frame
without blocks, and the blocks lie inside the buffer (R74, R132). -/
theorem Inv.frameCnt_of_complete (inv : Inv s) (hp : s.phase = .receive) (hn : 11 < s.nextLen)
    (hlen : s.nextLen + 1 = s.header.frameLen.toNat) :
    s.header.frameCnt.toNat ≠ 0 ∧ s.header.frameCnt.toNat ≤ 41 := by
  have hshape := inv.frameLen_eq (by omega)
  exact ⟨by omega, (blocksInside_iff s).1 (inv.blocksInside hp hlen)⟩

/-- Settles O44: the header rows are those of the eleventh octet (R131), and an END row needs 1 to 41 blocks. -/
theorem unfittingFrameCountNeverCompletes : Obligations.UnfittingFrameCountNeverCompletes := by
  intro s b inv h hpast hcnt
  have row := State.rowCondition_selected inv.receiveIndex
  have hfirst : s.nextLen ≠ 11 := by unfold State.nextLen; omega
  have incomplete (hn : 11 < s.nextLen) (hlen : s.nextLen + 1 = s.header.frameLen.toNat) : False := by
    obtain ⟨hpos, hle⟩ := inv.frameCnt_of_complete h.presents.phase_eq hn hlen
    obtain hzero | hmany := hcnt
    · exact hpos (congrArg BitVec.toNat hzero)
    · omega
  have hmem := h.selected_mem
  generalize s.selected = i at row hmem
  fin_cases hmem
  · exact .inl rfl
  · obtain ⟨-, -, h11, -⟩ := row; exact absurd h11 hfirst
  · obtain ⟨-, -, h11, -⟩ := row; exact absurd h11 hfirst
  · obtain ⟨-, -, h11, -⟩ := row; exact absurd h11 hfirst
  · exact .inr (.inl rfl)
  · obtain ⟨-, -, hn, hlen, -⟩ := row; exact (incomplete hn hlen).elim
  · obtain ⟨-, -, hn, hlen, -⟩ := row; exact (incomplete hn hlen).elim
  · exact .inr (.inr rfl)

end Sys2Proof.Machine
end

section
/-! PROOFS. The VBUS check `calcCRC` (41_vbus_receive.md R120, R121): its closed form, and from it what it detects and
what it does not. -/

namespace Sys2Proof.Machine

variable {rd rd' : Nat → Byte} {off len : Nat}

/-! ### The sum of a range of octets -/

/-- `buf[off] + ... + buf[off+len-1]`, without wrap: the sum in the closed form of R120. -/
def octetSum (rd : Nat → Byte) (off len : Nat) : Nat :=
  ((List.range len).map fun i => (rd (off + i)).toNat).sum

theorem octetSum_succ (rd : Nat → Byte) (off len : Nat) :
    octetSum rd off (len + 1) = octetSum rd off len + (rd (off + len)).toNat :=
  List.sum_range_succ ..

/-- The same sum over the integers, as R120 writes it. -/
theorem sum_octets_int (rd : Nat → Byte) (off len : Nat) :
    ((List.range len).map fun i => ((rd (off + i)).toNat : Int)).sum = octetSum rd off len := by
  induction len with
  | zero => rfl
  | succ n ih => rw [List.sum_range_succ, ih, octetSum_succ, Nat.cast_add]

theorem octetSum_congr (h : ∀ i < len, rd' (off + i) = rd (off + i)) : octetSum rd' off len = octetSum rd off len := by
  induction len with
  | zero => rfl
  | succ n ih => rw [octetSum_succ, octetSum_succ, ih fun i hi => h i (by omega), h n (by omega)]

/-- One octet changed moves the sum by the change. -/
theorem octetSum_change {k : Nat} (hk : k < len) (h : ∀ a, a ≠ off + k → rd' a = rd a) :
    octetSum rd' off len + (rd (off + k)).toNat = octetSum rd off len + (rd' (off + k)).toNat := by
  induction len with
  | zero => omega
  | succ n ih =>
    rw [octetSum_succ, octetSum_succ]
    obtain hlt | rfl := Nat.lt_succ_iff_lt_or_eq.1 hk
    · have hlast := h (off + n) (by omega)
      have hinit := ih hlt
      rw [hlast]
      omega
    · have hinit := octetSum_congr (len := k) fun i hi => h (off + i) (by omega)
      omega

theorem octetSum_update {j : Nat} (hj : j < len) (v : Byte) :
    octetSum (Function.update rd (off + j) v) off len + (rd (off + j)).toNat = octetSum rd off len + v.toNat := by
  have hsum := octetSum_change (rd' := Function.update rd (off + j) v) hj fun a ha => Function.update_of_ne ha ..
  rwa [Function.update_self] at hsum

/-- Two octets changed move the sum by both changes: one after the other. -/
theorem octetSum_change_two {j k : Nat} (hj : j < len) (hk : k < len) (hjk : j ≠ k)
    (h : ∀ a, a ≠ off + j → a ≠ off + k → rd' a = rd a) :
    octetSum rd' off len + ((rd (off + j)).toNat + (rd (off + k)).toNat) =
      octetSum rd off len + ((rd' (off + j)).toNat + (rd' (off + k)).toNat) := by
  have first := octetSum_update (rd := rd) (off := off) hj (rd' (off + j))
  have second := octetSum_change (rd := Function.update rd (off + j) (rd' (off + j))) hk fun a ha => by
    by_cases haj : a = off + j
    · rw [haj, Function.update_self]
    · rw [Function.update_of_ne haj, h a haj ha]
  rw [Function.update_of_ne (show off + k ≠ off + j by omega)] at second
  omega

/-! ### The closed form -/

/-- `calcCRC` and the sum of its octets make 0x7F modulo 128: the closed form of R120 without subtraction. -/
theorem calcCrc_add_octetSum (rd : Nat → Byte) (off len : Nat) :
    ((calcCrc rd off len).toNat + octetSum rd off len) % 128 = 127 := by
  induction len with
  | zero => rfl
  | succ n ih =>
    rw [octetSum_succ, calcCrc, BitVec.toNat_sub, BitVec.toNat_setWidth]
    omega

/-- Settles O35: seven bits that make 0x7F with the sum modulo 128 are `(0x7F - sum) mod 128`. -/
theorem calcCrcClosedForm : Obligations.CalcCrcClosedForm := by
  intro rd off len
  have hsum := calcCrc_add_octetSum rd off len
  have hlt := (calcCrc rd off len).isLt
  rw [sum_octets_int]
  omega

/-- Two ranges have the same check exactly when their sums agree modulo 128 (R121 a). -/
theorem calcCrc_eq_iff {off' len' : Nat} :
    calcCrc rd off len = calcCrc rd' off' len' ↔ octetSum rd off len % 128 = octetSum rd' off' len' % 128 := by
  have hsum := calcCrc_add_octetSum rd off len
  have hsum' := calcCrc_add_octetSum rd' off' len'
  have hlt := (calcCrc rd off len).isLt
  have hlt' := (calcCrc rd' off' len').isLt
  rw [← BitVec.toNat_inj]
  omega

theorem calcCrc_eq_zero_iff : calcCrc rd off len = 0 ↔ octetSum rd off len % 128 = 127 := by
  have hsum := calcCrc_add_octetSum rd off len
  have hlt := (calcCrc rd off len).isLt
  have hzero : (0 : BitVec 7).toNat = 0 := rfl
  rw [← BitVec.toNat_inj, hzero]
  omega

/-! ### The laws -/

/-- The last octet closes a passing range exactly when it is `(0x7F - sum) mod 128`, modulo 128 (R121 b). -/
theorem check_octet_iff (rd : Nat → Byte) (off len : Nat) :
    ((rd (off + len)).toNat : Int) % 128 = (0x7F - (octetSum rd off len : Int)) % 128 ↔
      calcCrc rd off (len + 1) = 0 := by
  rw [calcCrc_eq_zero_iff, octetSum_succ]
  omega

/-- One octet changed by no multiple of 128 changes the check (R121 c). -/
theorem calcCrc_ne_of_change {k : Nat} (hk : k < len) (h : ∀ a, a ≠ off + k → rd' a = rd a)
    (hne : (rd' (off + k)).toNat % 128 ≠ (rd (off + k)).toNat % 128) : calcCrc rd' off len ≠ calcCrc rd off len := by
  have hsum := octetSum_change hk h
  rw [Ne, calcCrc_eq_iff]
  omega

/-- Two changes that cancel modulo 128 leave the check as it is (R121 d). -/
theorem calcCrc_eq_of_cancel {j k : Nat} (hj : j < len) (hk : k < len) (hjk : j ≠ k)
    (h : ∀ a, a ≠ off + j → a ≠ off + k → rd' a = rd a)
    (hcancel : ((rd' (off + j)).toNat + (rd' (off + k)).toNat) % 128 =
      ((rd (off + j)).toNat + (rd (off + k)).toNat) % 128) : calcCrc rd' off len = calcCrc rd off len := by
  have hsum := octetSum_change_two hj hk hjk h
  rw [calcCrc_eq_iff]
  omega

/-- Settles O36: each law is the closed form's sum modulo 128, seen from one side. -/
theorem calcCrcLaws : Obligations.CalcCrcLaws := by
  refine ⟨fun rd rd' off off' len len' hsum => calcCrc_eq_iff.2 hsum, fun rd off len => ?check,
    fun rd rd' off len k hk hpass h hne => ?change, fun rd rd' off len k hk hpass h hne hlt hlt' => ?sevenBit,
    fun rd rd' off len j k hjk hk h hcancel => ?cancel, fun _ _ => rfl⟩
  case check =>
    rw [sum_octets_int]
    exact check_octet_iff rd off len
  case change => exact hpass ▸ calcCrc_ne_of_change hk h hne
  case sevenBit =>
    refine hpass ▸ calcCrc_ne_of_change hk h ?_
    rw [Nat.mod_eq_of_lt hlt, Nat.mod_eq_of_lt hlt']
    exact fun heq => hne (BitVec.eq_of_toNat_eq heq)
  case cancel => exact calcCrc_eq_of_cancel (hjk.trans hk) hk hjk.ne h hcancel

end Sys2Proof.Machine
end

