-- ==== Sys2Proof/Proofs/OneChange.lean ====
section
/-! One changed octet and the checks of KW and P300 (42_kw_p300_receive.md R149). Both checks combine the octets by an
operation that cancels on either side, and that is all that detection needs. -/

namespace Sys2Proof.Machine

variable {rd rd' : Nat → Byte} {a len : Nat}

/-- Equal octets around the changed one do not hide it: those before it give equal values, which cancel on the left
where the octets differ; those after it cancel on the right, one by one. -/
theorem rangeCheck_ne_of_change {check : (Nat → Byte) → Nat → Byte} {op : Byte → Byte → Byte}
    (hsucc : ∀ r n, check r (n + 1) = op (check r n) (r (a + n)))
    (hcongr : ∀ n, (∀ i < n, rd' (a + i) = rd (a + i)) → check rd' n = check rd n)
    (hleft : ∀ x, (op x).Injective) (hright : ∀ y, (op · y).Injective) {k : Nat} (hk : k < len)
    (h : ∀ x, x ≠ a + k → rd' x = rd x) (hne : rd' (a + k) ≠ rd (a + k)) : check rd' len ≠ check rd len := by
  induction len with
  | zero => omega
  | succ n ih =>
    rw [hsucc, hsucc]
    obtain hlt | rfl := Nat.lt_succ_iff_lt_or_eq.1 hk
    · rw [h (a + n) (by omega)]
      exact (hright _).ne (ih hlt)
    · rw [hcongr k fun i hi => h (a + i) (by omega)]
      exact (hleft _).ne hne

theorem xorRange_ne_of_change {k : Nat} (hk : k < len) (h : ∀ x, x ≠ a + k → rd' x = rd x)
    (hne : rd' (a + k) ≠ rd (a + k)) : xorRange rd' a len ≠ xorRange rd a len :=
  rangeCheck_ne_of_change (check := (xorRange · a)) (fun _ _ => rfl) (fun _ => xorRange_congr)
    (fun _ _ _ => (BitVec.xor_right_inj _).1) (fun _ _ _ => (BitVec.xor_left_inj _).1) hk h hne

theorem sum8Range_ne_of_change {k : Nat} (hk : k < len) (h : ∀ x, x ≠ a + k → rd' x = rd x)
    (hne : rd' (a + k) ≠ rd (a + k)) : sum8Range rd' a len ≠ sum8Range rd a len :=
  rangeCheck_ne_of_change (check := (sum8Range · a)) (fun _ _ => rfl) (fun _ => sum8Range_congr)
    add_right_injective add_left_injective hk h hne

/-- Settles O37: exclusive or and addition modulo 256 both cancel. -/
theorem xorAndSumDetectOneChange : Obligations.XorAndSumDetectOneChange :=
  fun _ _ _ _ _ hk h hne => ⟨xorRange_ne_of_change hk h hne, sum8Range_ne_of_change hk h hne⟩

end Sys2Proof.Machine
end

section
/-! PROOFS. The operations that close a KM header, MRX.HDR.OK and MRX.HDR.ERR (43_kmbus_receive.md R164, R165), and
the KM check `crc16km` (R160, R161 a). Bit reversal turns the register of R160 into one that shifts right: it commutes
with a shift, so with an octet, so with a range of octets. -/

namespace Sys2Proof.Machine

variable {s : State} {b : Byte} {i : Instr}

/-! ### The fourth octet -/

/-- The fourth octet of a KM frame lands at index 3 and nowhere else. -/
theorem State.storedAt_storeFourth (s : State) (b : Byte) : StoredAt 3 b s (s.consume.storeFourth b) :=
  ⟨by rw [State.octet_storeFourth, if_pos rfl], fun x hx => by rw [State.octet_storeFourth, if_neg hx]; rfl⟩

/-- MRX.HDR.OK and MRX.HDR.ERR are one operation that differs in the phase it leaves behind. -/
theorem exec_eq_kmHeader (hi : i ∈ [Instr.mrxHdrOk b, Instr.mrxHdrErr b]) :
    i.eventOctet = some b ∧ exec i s = .next { s.consume.storeFourth b with
      phase := if i = .mrxHdrOk b then s.phase else .error } := by
  simp only [List.mem_cons, List.not_mem_nil, or_false] at hi
  obtain rfl | rfl := hi
  · exact ⟨rfl, by rw [if_pos rfl]; exact exec_mrxHdrOk s b⟩
  · exact ⟨rfl, by rw [if_neg nofun]; exact exec_mrxHdrErr s b⟩

/-- Settles O20: index and buffer are those of `State.storeFourth`, whichever phase the operation leaves behind. -/
theorem kmHeaderOperations : Obligations.KmHeaderOperations := by
  intro s b i hi
  obtain ⟨hoctet, hexec⟩ := exec_eq_kmHeader (s := s) hi
  exact ⟨_, hexec, rfl, rfl, rfl, (Effect.of_exec hexec).receiveFrame hoctet, s.storedAt_storeFourth b⟩

/-! ### Bit reversal of a half-word -/

theorem refl16_xor (x y : Half) : refl16 (x ^^^ y) = refl16 x ^^^ refl16 y := by
  ext k hk
  simp only [refl16, BitVec.getElem_xor, BitVec.getElem_reverse, BitVec.getMsbD_xor]

theorem refl16_shiftLeft (x : Half) (n : Nat) : refl16 (x <<< n) = refl16 x >>> n := by
  ext k hk
  simp only [refl16, BitVec.getElem_reverse, BitVec.getMsbD_shiftLeft, BitVec.getElem_ushiftRight,
    BitVec.getLsbD_reverse, Nat.add_comm]

theorem refl16_getLsbD_zero (x : Half) : (refl16 x).getLsbD 0 = x.msb := BitVec.getLsbD_reverse

/-- An octet that enters reflected at the register's high end enters as it is at the low end. -/
theorem refl16_octet (x : Byte) : refl16 ((refl8 x).setWidth 16 <<< 8) = x.setWidth 16 := by
  rw [refl16_shiftLeft]
  ext k hk
  simp [refl16, refl8, BitVec.getLsbD_reverse, BitVec.getMsbD_setWidth, BitVec.getMsbD_reverse]

/-! ### The register, reversed -/

/-- 0x8408 is the polynomial 0x1021 reversed. -/
theorem refl16_crcShift (crc : Half) : refl16 (crcShift crc) = lsbShift (refl16 crc) := by
  have poly : refl16 Config.kmCrcPoly = 0x8408 := by decide
  unfold crcShift lsbShift
  rw [refl16_getLsbD_zero]
  split
  · rw [refl16_xor, refl16_shiftLeft, poly]
  · exact refl16_shiftLeft crc 1

theorem refl16_crcShifts (k : Nat) (crc : Half) : refl16 (crcShifts k crc) = lsbShift^[k] (refl16 crc) := by
  induction k generalizing crc with
  | zero => rfl
  | succ k ih => rw [crcShifts, ih, refl16_crcShift, Function.iterate_succ_apply]

theorem refl16_crcOctet (crc : Half) (x : Byte) : refl16 (crcOctet crc x) = lsbOctet (refl16 crc) x := by
  rw [crcOctet, refl16_crcShifts, refl16_xor, refl16_octet]
  rfl

/-- Settles O38, by induction on the number of octets: both registers start at 0. -/
theorem crc16EqualsLsbFirstForm : Obligations.Crc16EqualsLsbFirstForm := by
  intro rd off len
  induction len with
  | zero => exact crc16km_zero rd off
  | succ n ih =>
    have hstep : crc16km rd off (n + 1) = lsbOctet (crc16km rd off n) (rd (off + n)) :=
      refl16_crcOctet (crcRegister rd off n) (rd (off + n))
    rw [hstep, ih, List.range_succ, List.map_append, List.foldl_append]
    rfl

end Sys2Proof.Machine
end

section
/-! PROOFS. The septet decoder and the block guard (44_decode_vbus.md R182, R184), the frame of every Decode step and the
VBUS dispatch (R180, R181, R185, R186, R187). -/

namespace Sys2Proof.Machine

variable {s t : State} {i : Instr}

/-! ### The septet decoder and the block guard -/

/-- Setting bit 7 of an octet twice, under one condition, is setting it once. -/
theorem setBit7_idem (v : Byte) (c : Prop) [Decidable c] :
    (if c then (if c then v ||| 0x80 else v) ||| 0x80 else if c then v ||| 0x80 else v) =
      if c then v ||| 0x80 else v := by
  split
  · rw [BitVec.or_assoc, BitVec.or_self]
  · rfl

/-- The septet octet lies behind the octets it corrects, so it is not corrected itself. -/
theorem State.septet_septetInject (s : State) (o len : Nat) :
    (s.septetInject o len).octet (o + len) = s.octet (o + len) := by
  rw [State.octet_septetInject, if_neg (by omega)]

/-- Settles O30: what one octet reads after the injection, with a data index, with an index outside, and twice. -/
theorem septetInjectPutsBackBit7 : Obligations.SeptetInjectPutsBackBit7 := by
  intro s o len
  refine ⟨fun i hi => ?data, fun a ha => ?outside, s.septetInject_eq o len, fun a => ?twice⟩
  case data =>
    have hin : o ≤ o + i ∧ o + i < o + len := by omega
    rw [State.octet_septetInject, Nat.add_sub_cancel_left]
    simp only [hin, true_and]
    split
    · rfl
    · exact BitVec.or_zero.symm
  case outside => rw [State.octet_septetInject, if_neg (by omega)]
  case twice =>
    rw [State.octet_septetInject (s.septetInject o len), s.septet_septetInject, State.octet_septetInject]
    exact setBit7_idem ..

/-- Settles O31: a validated VBUS frame ends at `9 + 6 * frame_cnt` (R132). -/
theorem presentMeansInsideFrame : Obligations.PresentMeansInsideFrame := by
  intro s k inv hp hv
  obtain ⟨-, -, -, hlen⟩ := inv.decodeVbus hp hv
  rw [State.present_iff, hlen]
  omega

/-! ### The frame of a Decode step -/

/-- A Decode operation completes from every state. -/
theorem exec_next_of_isDecode (hd : i.isDecode = true) (s : State) : ∃ t, exec i s = .next t := by
  cases i
  case decVbusDrop | decVbusVitosolic | decVbusBx | decVbusMx | decVbusGeneric | decKw | decP300 | decKmStatus |
      decKmOther => exact ⟨_, rfl⟩
  all_goals simp [Instr.isDecode, Instr.number] at hd

/-- A Decode operation reads the header registers and writes none of them. -/
theorem writesHeader_of_isDecode (hd : i.isDecode = true) : writesHeader i = false := by
  cases i <;> simp [Instr.isDecode, Instr.number, writesHeader] at *

/-- What the Decode operations write in common, and what none of them writes (R180, R181). -/
theorem frame_of_exec_decode (hd : i.isDecode = true) (hx : exec i s = .next t) :
    t.lastProgressMs = s.ports.nowMs ∧ t.busOk = true ∧
      t.ready = (if i = .decVbusDrop then s.ready else true) ∧ t.phase = .sync ∧ t.writeIdx = 0 ∧
      t.protocol = s.protocol ∧ t.header = s.header ∧ SameInputs s t := by
  have e := Effect.of_exec hx
  have hreset : i ≠ .reset := reset_ne_of_isDecode hd
  have herr : i ≠ .err := by rintro rfl; cases hd
  obtain ⟨hrearm, henv, hresets⟩ := e.model
  refine ⟨?lastProgress, ?busOk, ?ready, ?phase, writeIdx_of_exec_decode hd hx, ?protocol,
    e.header_of_not_writesHeader (writesHeader_of_isDecode hd), ?ports, hrearm, henv, ?resets⟩
  case lastProgress => rw [e.lastProgress, if_pos (.inr (.inl hd))]
  case busOk => rw [e.busOk, if_neg herr, if_pos (.inr hd)]
  case ready => rw [e.ready, if_neg (not_or.2 ⟨hreset, herr⟩)]; simp [hd]
  case phase => rw [e.phase, staysInReceive_of_isDecode hd, phaseAfter_of_isDecode hd]; rfl
  case protocol => rw [e.protocol, if_neg hreset]
  case ports => rw [e.ports, eventOctet_of_isDecode hd]; rfl
  case resets => rw [hresets, if_neg hreset]

/-- Every Decode operation but DEC.VBUS.DROP sets `ready` (R181). -/
theorem DecodeFrame.of_exec (hd : i.isDecode = true) (hdrop : i ≠ .decVbusDrop) (hx : exec i s = .next t) :
    DecodeFrame s t := by
  have h := frame_of_exec_decode hd hx
  rwa [if_neg hdrop] at h

/-- A Decode operation is selected exactly in DECODE without reset (R72). -/
theorem State.isDecode_selected_iff (s : State) :
    s.selected.isDecode = true ↔ s.ports.rst = false ∧ s.phase = .decode := by
  by_cases hr : s.ports.rst = true
  · rw [State.selected_of_rst hr, hr]
    simp [Instr.isDecode, Instr.number]
  · have hr : s.ports.rst = false := by simpa using hr
    rw [s.selected_spec.isDecode_iff hr]
    simp [hr]

/-- Settles O22: the frame common to the Decode operations; in DECODE the block takes no octet. -/
theorem decodeStepFrame : Obligations.DecodeStepFrame := by
  intro s
  refine ⟨s.isDecode_selected_iff, fun hd => ⟨?notReady, ?frame⟩⟩
  case notReady =>
    obtain ⟨-, hp⟩ := s.isDecode_selected_iff.1 hd
    simp [State.rxReady, hp]
  case frame =>
    obtain ⟨t, hx⟩ := exec_next_of_isDecode hd s
    exact ⟨t, hx, frame_of_exec_decode hd hx⟩

/-! ### The VBUS dispatch and the fixed counts -/

/-- Settles O23: each branch of R185 is the row condition of its operation. -/
theorem vbusDispatchBySourceAddress : Obligations.VbusDispatchBySourceAddress := by
  intro s hr hp hv
  have h : s.decodes .vbus := ⟨hr, hp, hv⟩
  refine ⟨fun hc => ?drop, fun hc hs => ?vitosolic, fun hc hs => ?bx, fun hc hs => ?mx, fun hc hs => ?generic⟩
  case drop => exact State.selected_of_vbusDecodeRow h (by simp [decodeOps]) ⟨h, hc⟩
  case vitosolic => exact State.selected_of_vbusDecodeRow h (by simp [decodeOps]) ⟨h, hc, hs⟩
  case bx => exact State.selected_of_vbusDecodeRow h (by simp [decodeOps]) ⟨h, hc, hs⟩
  case mx => exact State.selected_of_vbusDecodeRow h (by simp [decodeOps]) ⟨h, hc, hs⟩
  case generic =>
    simp only [List.mem_cons, List.not_mem_nil, or_false, not_or] at hs
    exact State.selected_of_vbusDecodeRow h (by simp [decodeOps]) ⟨h, hc, hs⟩

/-- Settles O24: the counts are the last thing each extractor writes, and the Decode frame keeps them. -/
theorem vbusCountsAreFixed : Obligations.VbusCountsAreFixed := by
  intro s
  refine ⟨⟨_, exec_decVbusVitosolic s, ?vitosolic⟩, ⟨_, exec_decVbusBx s, ?bx⟩, ⟨_, exec_decVbusMx s, ?mx⟩,
    ⟨_, exec_decVbusGeneric s, ?generic⟩⟩
  all_goals simp

/-- Settles O25: the operation is the Decode frame around nothing, without the write to `ready`. -/
theorem dropTouchesNoData : Obligations.DropTouchesNoData := by
  intro s
  refine ⟨fun h hc => State.selected_of_vbusDecodeRow h (by simp [decodeOps]) ⟨h, hc⟩, ?_⟩
  have hx : exec .decVbusDrop s = .next s.enterDecode.leaveDecode := exec_decVbusDrop s
  obtain ⟨hlast, hbus, hready, hphase, hidx, hprot, hheader, hinputs⟩ := frame_of_exec_decode rfl hx
  have hsnapshot : SameSnapshot s s.enterDecode.leaveDecode := by simp [SameSnapshot]
  exact ⟨_, hx, hlast, hbus, hready, hphase, hidx, hprot, hheader, hsnapshot, hinputs, fun a => by simp⟩

end Sys2Proof.Machine
end

section
/-! PROOFS. The VBUS extractors (44_decode_vbus.md R182, R184, R188 to R192). An extractor is a chain of block forms, each
about a block of its own; so each finds its septet and data octets as the frame brought them, whatever the forms before
it injected. -/

namespace Sys2Proof.Machine

variable {s t u : State} {blocks : List Nat}

/-! ### The buffer after some blocks have been injected -/

/-- `t` has the header of `s`, and its buffer is that of `s` after the injection of the present ones of `blocks`. -/
structure Injects (s : State) (blocks : List Nat) (t : State) : Prop where
  header : t.header = s.header
  octet : ∀ a, t.octet a = afterInjection s blocks a

theorem afterInjection_nil (s : State) (a : Nat) : afterInjection s [] a = s.octet a := by
  simp [afterInjection]

/-- A present block of the list reads injected at its data octets. -/
theorem afterInjection_data {k i : Nat} (hi : i < 4) (hk : k ∈ blocks) (hp : k < s.header.frameCnt.toNat) :
    afterInjection s blocks (9 + 6 * k + i) = injected s (9 + 6 * k) i := by
  have hblock : (9 + 6 * k + i - 9) / 6 = k := by omega
  have hindex : (9 + 6 * k + i - 9) % 6 = i := by omega
  unfold afterInjection
  rw [hblock, hindex, if_pos ⟨by omega, hi, hk, hp⟩]

/-- A block that is not in the list reads as before, its septet and CRC octets included. -/
theorem afterInjection_of_not_mem {k i : Nat} (hi : i < 6) (hk : k ∉ blocks) :
    afterInjection s blocks (9 + 6 * k + i) = s.octet (9 + 6 * k + i) := by
  have hblock : (9 + 6 * k + i - 9) / 6 = k := by omega
  unfold afterInjection
  rw [hblock, if_neg fun h => hk h.2.2.1]

/-- One more block in the list makes no difference but at the data octets of that block, if it is present. -/
theorem afterInjection_append {k a : Nat}
    (h : ¬(k < s.header.frameCnt.toNat ∧ 9 + 6 * k ≤ a ∧ a < 9 + 6 * k + 4)) :
    afterInjection s (blocks ++ [k]) a = afterInjection s blocks a := by
  unfold afterInjection
  refine if_congr ?_ rfl rfl
  simp only [List.mem_append, List.mem_singleton]
  constructor
  · rintro ⟨h9, h4, hmem | hk, hp⟩
    · exact ⟨h9, h4, hmem, hp⟩
    · exact absurd ⟨hk ▸ hp, by omega, by omega⟩ h
  · rintro ⟨h9, h4, hmem, hp⟩
    exact ⟨h9, h4, .inl hmem, hp⟩

/-- The entry actions inject nothing. -/
theorem Injects.enterDecode (s : State) : Injects s [] s.enterDecode where
  header := rfl
  octet a := (afterInjection_nil s a).symm

theorem Injects.setCounts (h : Injects s blocks t) (temps pumps relays : BitVec 8) :
    Injects s blocks (t.setCounts temps pumps relays) :=
  ⟨h.header, h.octet⟩

theorem Injects.present_iff (h : Injects s blocks t) (k : Nat) :
    t.present (9 + 6 * k) = true ↔ k < s.header.frameCnt.toNat := by
  rw [State.present_iff, h.header]

/-- What is injected into a block does not depend on which other blocks have been injected before. -/
theorem Injects.injected_eq (h : Injects s blocks t) {k i : Nat} (hk : k ∉ blocks) (hi : i < 4) :
    injected t (9 + 6 * k) i = injected s (9 + 6 * k) i := by
  unfold injected
  rw [h.octet, h.octet, afterInjection_of_not_mem (by omega) hk, afterInjection_of_not_mem (by omega) hk]

theorem Injects.injected16_eq (h : Injects s blocks t) {k i : Nat} (hk : k ∉ blocks) (hi : i < 3) :
    injected16 t (9 + 6 * k) i = injected16 s (9 + 6 * k) i := by
  unfold injected16
  rw [h.injected_eq hk (by omega), h.injected_eq hk (by omega)]

/-- A block form about a further block adds that block to the injected ones. -/
theorem Injects.withBlock (h : Injects s blocks t) {k : Nat} (hk : k ∉ blocks) {f : State → State}
    (hheader : ∀ v, (f v).header = v.header) (hoctet : ∀ v a, (f v).octet a = v.octet a) :
    Injects s (blocks ++ [k]) (t.withBlock (9 + 6 * k) f) where
  header := (State.withBlock_keeps (·.header) t _ f (fun _ _ => rfl) hheader).trans h.header
  octet a := by
    rw [State.octet_withBlock t _ f hoctet, if_congr (h.present_iff k) rfl rfl]
    split
    case isTrue hp =>
      by_cases ha : 9 + 6 * k ≤ a ∧ a < 9 + 6 * k + 4
      · obtain ⟨i, rfl⟩ := Nat.exists_eq_add_of_le ha.1
        have hi : i < 4 := by omega
        rw [State.octet_septetInject_data t _ hi, h.injected_eq hk hi, afterInjection_data hi (by simp) hp]
      · rw [State.octet_septetInject, if_neg fun hin => ha ⟨hin.1, hin.2.1⟩, h.octet,
          afterInjection_append fun hin => ha hin.2]
    case isFalse hp => rw [h.octet, afterInjection_append fun hin => hp hin.1]

/-! ### One block form in the chain: the buffer -/

theorem Injects.temp2 (h : Injects s blocks t) (k : Nat) (lo hi : Fin 32) (hk : k ∉ blocks := by decide) :
    Injects s (blocks ++ [k]) (t.temp2 (9 + 6 * k) lo hi) :=
  h.withBlock hk (fun _ => rfl) fun _ _ => rfl

theorem Injects.pumps (h : Injects s blocks t) (k : Nat) (dests : List (Fin 32)) (on : Byte → Bool)
    (hk : k ∉ blocks := by decide) : Injects s (blocks ++ [k]) (t.pumps (9 + 6 * k) dests on) :=
  h.withBlock hk (fun v => State.pumpLoop_keeps (·.header) on (fun _ _ _ => rfl) (fun _ _ _ => rfl) v _ dests)
    fun v => State.octet_pumpLoop on v _ dests

theorem Injects.hoursBlock (h : Injects s blocks t) (k : Nat) (hk : k ∉ blocks := by decide) :
    Injects s (blocks ++ [k]) (t.hoursBlock (9 + 6 * k)) :=
  h.withBlock hk (fun _ => rfl) fun _ _ => rfl

theorem Injects.heatBlock (h : Injects s blocks t) (k : Nat) (hk : k ∉ blocks := by decide) :
    Injects s (blocks ++ [k]) (t.heatBlock (9 + 6 * k)) :=
  h.withBlock hk (fun _ => rfl) fun _ _ => rfl

theorem Injects.maskBlock (h : Injects s blocks t) (k : Nat) (hk : k ∉ blocks := by decide) :
    Injects s (blocks ++ [k]) (t.maskBlock (9 + 6 * k)) :=
  h.withBlock hk (fun _ => rfl) fun _ _ => rfl

theorem Injects.maskAndTimeBlock (h : Injects s blocks t) (k : Nat) (hk : k ∉ blocks := by decide) :
    Injects s (blocks ++ [k]) (t.maskAndTimeBlock (9 + 6 * k)) :=
  h.withBlock hk (fun _ => rfl) fun _ _ => rfl

theorem Injects.variantBlock (h : Injects s blocks t) (k : Nat) (hk : k ∉ blocks := by decide) :
    Injects s (blocks ++ [k]) (t.variantBlock (9 + 6 * k)) :=
  h.withBlock hk (fun _ => rfl) fun _ _ => rfl

/-! ### One block form in the chain: its registers -/

theorem Injects.temp2_temp_get (h : Injects s blocks t) {k : Nat} (hk : k ∉ blocks) (lo hi i : Fin 32) :
    (t.temp2 (9 + 6 * k) lo hi).temp.get i =
      if k < s.header.frameCnt.toNat then
        if hi = i then injected16 s (9 + 6 * k) 2
        else if lo = i then injected16 s (9 + 6 * k) 0 else t.temp.get i
      else t.temp.get i := by
  rw [State.temp2_temp, h.injected16_eq hk (by omega), h.injected16_eq hk (by omega),
    if_congr (h.present_iff k) rfl rfl]
  split
  · simp only [Vector.get_eq_getElem, Vector.getElem_set, Fin.val_inj]
  · rfl

theorem Injects.heatBlock_heatQuantityWh (h : Injects s blocks t) (k : Nat) (hk : k ∉ blocks := by decide) :
    (t.heatBlock (9 + 6 * k)).heatQuantityWh =
      if k < s.header.frameCnt.toNat then injected16 s (9 + 6 * k) 0 else t.heatQuantityWh := by
  rw [State.heatBlock_heatQuantityWh, h.injected16_eq hk (by omega), if_congr (h.present_iff k) rfl rfl]

theorem Injects.maskBlock_errorMask (h : Injects s blocks t) (k : Nat) (hk : k ∉ blocks := by decide) :
    (t.maskBlock (9 + 6 * k)).errorMask =
      if k < s.header.frameCnt.toNat then injected16 s (9 + 6 * k) 0 else t.errorMask := by
  rw [State.maskBlock_errorMask, h.injected16_eq hk (by omega), if_congr (h.present_iff k) rfl rfl]

theorem Injects.maskAndTimeBlock_writes (h : Injects s blocks t) (k : Nat) (hk : k ∉ blocks := by decide) :
    (t.maskAndTimeBlock (9 + 6 * k)).errorMask =
        (if k < s.header.frameCnt.toNat then injected16 s (9 + 6 * k) 0 else t.errorMask) ∧
      (t.maskAndTimeBlock (9 + 6 * k)).systemTimeMinutes =
        (if k < s.header.frameCnt.toNat then injected16 s (9 + 6 * k) 2 else t.systemTimeMinutes) := by
  obtain ⟨hmask, htime⟩ := t.maskAndTimeBlock_writes (9 + 6 * k)
  rw [hmask, htime, h.injected16_eq hk (by omega), h.injected16_eq hk (by omega), if_congr (h.present_iff k) rfl rfl,
    if_congr (h.present_iff k) rfl rfl]
  exact ⟨rfl, rfl⟩

theorem Injects.variantBlock_systemVariant (h : Injects s blocks t) (k : Nat) (hk : k ∉ blocks := by decide) :
    (t.variantBlock (9 + 6 * k)).systemVariant =
      if k < s.header.frameCnt.toNat then injected s (9 + 6 * k) 0 else t.systemVariant := by
  rw [State.variantBlock_systemVariant, h.injected_eq hk (by omega), if_congr (h.present_iff k) rfl rfl]

/-- The operating hours are 16-bit values, widened (R80); registers 2 to 7 stay. -/
theorem Injects.hoursBlock_opHours (h : Injects s blocks t) (k : Nat) (hk : k ∉ blocks := by decide) :
    ((t.hoursBlock (9 + 6 * k)).opHours.get 0).toNat =
        (if k < s.header.frameCnt.toNat then (injected16 s (9 + 6 * k) 0).toNat else (t.opHours.get 0).toNat) ∧
      ((t.hoursBlock (9 + 6 * k)).opHours.get 1).toNat =
        (if k < s.header.frameCnt.toNat then (injected16 s (9 + 6 * k) 2).toNat else (t.opHours.get 1).toNat) ∧
      ∀ j : Fin 8, 2 ≤ j.val → (t.hoursBlock (9 + 6 * k)).opHours.get j = t.opHours.get j := by
  have widened (v : Half) : (v.setWidth 32).toNat = v.toNat := BitVec.toNat_setWidth_of_le (by omega)
  rw [State.hoursBlock_opHours, h.injected16_eq hk (by omega), h.injected16_eq hk (by omega),
    if_congr (h.present_iff k) rfl rfl]
  by_cases hp : k < s.header.frameCnt.toNat
  · simp only [if_pos hp, Vector.get_eq_getElem, Vector.getElem_set]
    refine ⟨widened _, widened _, fun j hj => ?_⟩
    rw [if_neg (by omega), if_neg (by omega)]
  · simp only [if_neg hp, implies_true, and_self]

/-! ### The pump loop (R188) -/

/-- The registers `dests` are `first`, `first + 1`, ..., in this order: the arguments `first, count` of `PUMPS`. -/
def Consecutive (first : Nat) (dests : List (Fin 32)) : Prop :=
  dests.map Fin.val = List.range' first dests.length

theorem consecutive_cons {first : Nat} {i : Fin 32} {dests : List (Fin 32)} :
    Consecutive first (i :: dests) ↔ i.val = first ∧ Consecutive (first + 1) dests := by
  simp [Consecutive, List.range'_succ]

/-- Pump and relay `first + i` come from the octet at `a + i`; the other registers stay. -/
theorem State.pumpLoop_writes (on : Byte → Bool) {first : Nat} {dests : List (Fin 32)} (hd : Consecutive first dests)
    (s : State) (a : Nat) (j : Fin 32) :
    (State.pumpLoop on s a dests).pump.get j =
        (if first ≤ j.val ∧ j.val < first + dests.length then pumpField s.octet (a + (j.val - first))
          else s.pump.get j) ∧
      (State.pumpLoop on s a dests).relay.get j =
        (if first ≤ j.val ∧ j.val < first + dests.length then on (pumpField s.octet (a + (j.val - first)))
          else s.relay.get j) := by
  induction dests generalizing first s a with
  | nil =>
    have hj : ¬(first ≤ j.val ∧ j.val < first + ([] : List (Fin 32)).length) := by simp
    rw [if_neg hj, if_neg hj]
    exact ⟨rfl, rfl⟩
  | cons i dests ih =>
    obtain ⟨hi, htail⟩ := consecutive_cons.1 hd
    have hoctet (v : Byte) (r : Bool) : ((s.setPump i v).setRelay i r).octet = s.octet := rfl
    simp only [State.pumpLoop, ih htail, hoctet, List.length_cons, State.setRelay_pump, State.setPump_pump,
      State.setRelay_relay, State.setPump_relay, Vector.get_eq_getElem, Vector.getElem_set]
    obtain hlt | heq | hgt := Nat.lt_trichotomy j.val first
    · have hout : ¬(first + 1 ≤ j.val ∧ j.val < first + 1 + dests.length) := by omega
      have hout' : ¬(first ≤ j.val ∧ j.val < first + (dests.length + 1)) := by omega
      have hne : i.val ≠ j.val := by omega
      simp only [if_neg hout, if_neg hout', if_neg hne, and_self]
    · have hout : ¬(first + 1 ≤ j.val ∧ j.val < first + 1 + dests.length) := by omega
      have hin : first ≤ j.val ∧ j.val < first + (dests.length + 1) := by omega
      have hzero : a + (j.val - first) = a := by omega
      simp only [if_neg hout, if_pos hin, if_pos (hi.trans heq.symm), hzero, and_self]
    · have hiff : (first + 1 ≤ j.val ∧ j.val < first + 1 + dests.length) ↔
          (first ≤ j.val ∧ j.val < first + (dests.length + 1)) := by omega
      have hne : i.val ≠ j.val := by omega
      have hshift : a + 1 + (j.val - (first + 1)) = a + (j.val - first) := by omega
      simp only [hiff, if_neg hne, hshift, and_self]

/-- `PUMPS` in the chain (R188): pump and relay `first + i` come from data octet `i` of the block, if it is present. -/
theorem Injects.pumps_inside (h : Injects s blocks t) (k : Nat) {first : Nat} {dests : List (Fin 32)}
    (on : Byte → Bool) {j : Fin 32} (hj : first ≤ j.val ∧ j.val < first + dests.length)
    (hd : Consecutive first dests := by rfl) (hlen : dests.length ≤ 4 := by decide)
    (hk : k ∉ blocks := by decide) :
    (t.pumps (9 + 6 * k) dests on).pump.get j =
        (if k < s.header.frameCnt.toNat then injected s (9 + 6 * k) (j.val - first) &&& 0x7F
          else t.pump.get j) ∧
      (t.pumps (9 + 6 * k) dests on).relay.get j =
        (if k < s.header.frameCnt.toNat then on (injected s (9 + 6 * k) (j.val - first) &&& 0x7F)
          else t.relay.get j) := by
  have hfield : pumpField (t.septetInject (9 + 6 * k) 4).octet (9 + 6 * k + (j.val - first)) =
      injected s (9 + 6 * k) (j.val - first) &&& 0x7F := by
    have hi : j.val - first < 4 := by omega
    rw [pumpField, State.octet_septetInject_data t _ hi, h.injected_eq hk hi]
  by_cases hp : k < s.header.frameCnt.toNat
  · obtain ⟨hpump, hrelay⟩ := State.pumpLoop_writes on hd (t.septetInject (9 + 6 * k) 4) (9 + 6 * k) j
    rw [State.pumps_eq, if_pos ((h.present_iff k).2 hp), hpump, hrelay, if_pos hj, if_pos hj, if_pos hp, if_pos hp,
      hfield]
    exact ⟨rfl, rfl⟩
  · rw [State.pumps_eq, if_neg (mt (h.present_iff k).1 hp), if_neg hp, if_neg hp]
    exact ⟨rfl, rfl⟩

/-- `PUMPS` leaves the registers alone that are not among its `count` from `first` on. -/
theorem State.pumps_outside (t : State) (o : Nat) {first : Nat} {dests : List (Fin 32)} (on : Byte → Bool)
    {j : Fin 32} (hj : ¬(first ≤ j.val ∧ j.val < first + dests.length)) (hd : Consecutive first dests := by rfl) :
    (t.pumps o dests on).pump.get j = t.pump.get j ∧ (t.pumps o dests on).relay.get j = t.relay.get j := by
  rw [State.pumps_eq]
  split
  · obtain ⟨hpump, hrelay⟩ := State.pumpLoop_writes on hd (t.septetInject o 4) o j
    rw [hpump, hrelay, if_neg hj, if_neg hj, State.septetInject_pump, State.septetInject_relay]
    exact ⟨rfl, rfl⟩
  · exact ⟨rfl, rfl⟩

theorem onAtHundred_eq (v : Byte) : onAtHundred v = decide (v = 100) := rfl

theorem onAboveZero_eq (v : Byte) : onAboveZero v = decide (0 < v.toNat) := by
  rw [onAboveZero, Bool.eq_iff_iff, bne_iff_ne, decide_eq_true_iff, Nat.pos_iff_ne_zero, Ne, Ne, BitVec.toNat_eq]
  rfl

/-! ### The temperature blocks (R188 to R192) -/

/-- The first `n` blocks feed `T[0..2n-1]`, two registers each: how every extractor begins. -/
def State.tempBlocks (s : State) : Nat → State
  | 0 => s
  | n + 1 => (s.tempBlocks n).temp2 (9 + 6 * n) (Fin.ofNat 32 (2 * n)) (Fin.ofNat 32 (2 * n + 1))

theorem State.extractVitosolic_eq (s : State) : s.extractVitosolic =
    (((((s.tempBlocks 6).pumps 75 [0, 1, 2, 3] onAtHundred).pumps 81 [4, 5, 6] onAtHundred).maskAndTimeBlock
      87).variantBlock 93).setCounts 12 7 7 := rfl

theorem State.extractBx_eq (s : State) : s.extractBx =
    ((((s.tempBlocks 3).pumps 33 [0, 1] onAboveZero).hoursBlock 39).heatBlock 45).setCounts 6 2 2 := rfl

theorem State.extractMx_eq (s : State) : s.extractMx =
    (((((s.tempBlocks 2).pumps 21 [0, 1, 2, 3] onAboveZero).hoursBlock 27).heatBlock 33).maskBlock
      39).setCounts 4 4 4 := rfl

theorem State.extractGeneric_eq (s : State) : s.extractGeneric = (s.tempBlocks 2).setCounts 4 0 0 := rfl

/-- Whatever `TEMP2` leaves alone, the temperature blocks leave alone. -/
theorem State.tempBlocks_keeps {α : Type} (g : State → α) (hg : ∀ t o lo hi, g (State.temp2 t o lo hi) = g t)
    (s : State) (n : Nat) : g (s.tempBlocks n) = g s := by
  induction n with
  | zero => rfl
  | succ n ih => exact (hg ..).trans ih

@[simp] theorem State.tempBlocks_pump (s : State) (n : Nat) : (s.tempBlocks n).pump = s.pump :=
  State.tempBlocks_keeps (·.pump) State.temp2_pump s n
@[simp] theorem State.tempBlocks_relay (s : State) (n : Nat) : (s.tempBlocks n).relay = s.relay :=
  State.tempBlocks_keeps (·.relay) State.temp2_relay s n
@[simp] theorem State.tempBlocks_errorMask (s : State) (n : Nat) : (s.tempBlocks n).errorMask = s.errorMask :=
  State.tempBlocks_keeps (·.errorMask) State.temp2_errorMask s n
@[simp] theorem State.tempBlocks_systemTimeMinutes (s : State) (n : Nat) :
    (s.tempBlocks n).systemTimeMinutes = s.systemTimeMinutes :=
  State.tempBlocks_keeps (·.systemTimeMinutes) State.temp2_systemTimeMinutes s n
@[simp] theorem State.tempBlocks_heatQuantityWh (s : State) (n : Nat) :
    (s.tempBlocks n).heatQuantityWh = s.heatQuantityWh :=
  State.tempBlocks_keeps (·.heatQuantityWh) State.temp2_heatQuantityWh s n
@[simp] theorem State.tempBlocks_systemVariant (s : State) (n : Nat) :
    (s.tempBlocks n).systemVariant = s.systemVariant :=
  State.tempBlocks_keeps (·.systemVariant) State.temp2_systemVariant s n
@[simp] theorem State.tempBlocks_opHours (s : State) (n : Nat) : (s.tempBlocks n).opHours = s.opHours :=
  State.tempBlocks_keeps (·.opHours) State.temp2_opHours s n

theorem Injects.tempBlocks (h : Injects s [] u) (n : Nat) : Injects s (List.range n) (u.tempBlocks n) := by
  induction n with
  | zero => exact h
  | succ n ih =>
    rw [List.range_succ]
    exact ih.temp2 n _ _ List.not_mem_range_self

/-- Register `i` is fed by block `i / 2`, from data octet 0 or 2. -/
theorem Injects.tempBlocks_temp_get (h : Injects s [] u) {n : Nat} (hn : n ≤ 16) (i : Fin 32) :
    (u.tempBlocks n).temp.get i =
      if i.val < 2 * n ∧ i.val / 2 < s.header.frameCnt.toNat then
        injected16 s (9 + 6 * (i.val / 2)) (2 * (i.val % 2))
      else u.temp.get i := by
  induction n with
  | zero => rw [if_neg (by omega)]; rfl
  | succ n ih =>
    have hlo : (Fin.ofNat 32 (2 * n)).val = 2 * n := Nat.mod_eq_of_lt (by omega)
    have hhi : (Fin.ofNat 32 (2 * n + 1)).val = 2 * n + 1 := Nat.mod_eq_of_lt (by omega)
    rw [State.tempBlocks, (h.tempBlocks n).temp2_temp_get List.not_mem_range_self, ih (by omega)]
    simp only [Fin.ext_iff, hlo, hhi]
    by_cases hnew : i.val / 2 = n
    · have hold : ¬(i.val < 2 * n ∧ i.val / 2 < s.header.frameCnt.toNat) := by omega
      have hlt : i.val < 2 * (n + 1) := by omega
      rw [if_neg hold, hnew]
      simp only [hlt, true_and]
      obtain hpar | hpar := Nat.mod_two_eq_zero_or_one i.val
      · have hval : 2 * n = i.val := by omega
        have hne : 2 * n + 1 ≠ i.val := by omega
        rw [if_neg hne, if_pos hval, hpar]
      · have hval : 2 * n + 1 = i.val := by omega
        rw [if_pos hval, hpar]
    · have hne : 2 * n ≠ i.val ∧ 2 * n + 1 ≠ i.val := by omega
      have hiff : i.val < 2 * n ↔ i.val < 2 * (n + 1) := by omega
      simp only [if_neg hne.1, if_neg hne.2, ite_self, hiff]

/-- The two registers of block `k` (R188). -/
theorem Injects.tempBlocks_pair (h : Injects s [] u) {n : Nat} (hn : n ≤ 16) (k : Fin n) :
    (u.tempBlocks n).temp.get ⟨2 * k.val, by omega⟩ =
        (if k.val < s.header.frameCnt.toNat then injected16 s (9 + 6 * k.val) 0
          else u.temp.get ⟨2 * k.val, by omega⟩) ∧
      (u.tempBlocks n).temp.get ⟨2 * k.val + 1, by omega⟩ =
        (if k.val < s.header.frameCnt.toNat then injected16 s (9 + 6 * k.val) 2
          else u.temp.get ⟨2 * k.val + 1, by omega⟩) := by
  have hlo : 2 * k.val < 2 * n ∧ 2 * k.val / 2 = k.val ∧ 2 * k.val % 2 = 0 := by omega
  have hhi : 2 * k.val + 1 < 2 * n ∧ (2 * k.val + 1) / 2 = k.val ∧ (2 * k.val + 1) % 2 = 1 := by omega
  rw [h.tempBlocks_temp_get hn, h.tempBlocks_temp_get hn]
  simp only [hlo, hhi, true_and, Nat.mul_zero, Nat.mul_one, and_self]

/-- The registers beyond those of the temperature blocks stay. -/
theorem Injects.tempBlocks_rest (h : Injects s [] u) {n : Nat} (hn : n ≤ 16) {i : Fin 32} (hi : 2 * n ≤ i.val) :
    (u.tempBlocks n).temp.get i = u.temp.get i := by
  rw [h.tempBlocks_temp_get hn, if_neg (by omega)]

/-! ### Temperature blocks, then pumps: how BX and MX go on (R190, R191) -/

/-- `PUMPS` from register 0 on, after the temperature blocks: the first `count` registers come from the block. -/
theorem Injects.tempBlocks_pumps (h : Injects s [] u) {n : Nat} (k : Nat) {dests : List (Fin 32)} (on : Byte → Bool)
    {j : Fin 32} (hj : j.val < dests.length) (hd : Consecutive 0 dests := by rfl)
    (hlen : dests.length ≤ 4 := by decide) (hk : k ∉ List.range n := by decide) :
    ((u.tempBlocks n).pumps (9 + 6 * k) dests on).pump.get j =
        (if k < s.header.frameCnt.toNat then injected s (9 + 6 * k) j.val &&& 0x7F else u.pump.get j) ∧
      ((u.tempBlocks n).pumps (9 + 6 * k) dests on).relay.get j =
        (if k < s.header.frameCnt.toNat then on (injected s (9 + 6 * k) j.val &&& 0x7F) else u.relay.get j) := by
  have hin : 0 ≤ j.val ∧ j.val < 0 + dests.length := by omega
  have hwrites := (h.tempBlocks n).pumps_inside k on hin hd hlen hk
  rwa [State.tempBlocks_pump, State.tempBlocks_relay] at hwrites

/-- The pump and relay registers beyond `count` stay. -/
theorem State.tempBlocks_pumps_rest (u : State) (n o : Nat) {dests : List (Fin 32)} (on : Byte → Bool) {j : Fin 32}
    (hj : dests.length ≤ j.val) (hd : Consecutive 0 dests := by rfl) :
    ((u.tempBlocks n).pumps o dests on).pump.get j = u.pump.get j ∧
      ((u.tempBlocks n).pumps o dests on).relay.get j = u.relay.get j := by
  have hout : ¬(0 ≤ j.val ∧ j.val < 0 + dests.length) := by omega
  have hstay := (u.tempBlocks n).pumps_outside o on hout hd
  rwa [State.tempBlocks_pump, State.tempBlocks_relay] at hstay

/-! ### DEC.VBUS.GENERIC (R192) -/

theorem State.extractGeneric_temp (s : State) : s.extractGeneric.temp = (s.tempBlocks 2).temp := rfl

theorem Injects.extractGeneric (h : Injects s [] u) : Injects s [0, 1] u.extractGeneric :=
  (h.tempBlocks 2).setCounts 4 0 0

/-- Settles O29: two temperature blocks and the counts. -/
theorem genericExtracts : Obligations.GenericExtracts := by
  intro s
  have h0 := Injects.enterDecode s
  have hframe := DecodeFrame.of_exec (i := .decVbusGeneric) rfl nofun (exec_decVbusGeneric s)
  refine ⟨_, exec_decVbusGeneric s, hframe, ?_⟩
  simp only [State.decoding_temp, State.extractGeneric_temp, State.octet_decoding, h0.extractGeneric.octet]
  refine ⟨h0.tempBlocks_pair (by decide), fun i hi => h0.tempBlocks_rest (by decide) hi, ?otherRegisters⟩
  case otherRegisters => simp

/-! ### DEC.VBUS.BX (R190) -/

theorem State.extractBx_temp (s : State) : s.extractBx.temp = (s.tempBlocks 3).temp := by
  simp [State.extractBx_eq]

theorem State.extractBx_pump (s : State) :
    s.extractBx.pump = ((s.tempBlocks 3).pumps 33 [0, 1] onAboveZero).pump := by
  simp [State.extractBx_eq]

theorem State.extractBx_relay (s : State) :
    s.extractBx.relay = ((s.tempBlocks 3).pumps 33 [0, 1] onAboveZero).relay := by
  simp [State.extractBx_eq]

theorem State.extractBx_opHours (s : State) :
    s.extractBx.opHours = (((s.tempBlocks 3).pumps 33 [0, 1] onAboveZero).hoursBlock 39).opHours := by
  simp [State.extractBx_eq]

theorem Injects.extractBx (h : Injects s [] u) : Injects s [0, 1, 2, 4, 5, 6] u.extractBx := by
  rw [State.extractBx_eq]
  exact ((((h.tempBlocks 3).pumps 4 [0, 1] onAboveZero).hoursBlock 5).heatBlock 6).setCounts 6 2 2

/-- Settles O27: the chain of R190, block by block. -/
theorem bxExtracts : Obligations.BxExtracts := by
  intro s
  have h0 := Injects.enterDecode s
  have h4 := (h0.tempBlocks 3).pumps 4 [0, 1] onAboveZero
  have hheat := (h4.hoursBlock 5).heatBlock_heatQuantityWh 6
  have hframe := DecodeFrame.of_exec (i := .decVbusBx) rfl nofun (exec_decVbusBx s)
  obtain ⟨hours0, hours1, otherHours⟩ := h4.hoursBlock_opHours 5
  simp only [State.pumps_opHours, State.tempBlocks_opHours] at hours0 hours1 otherHours
  refine ⟨_, exec_decVbusBx s, hframe, ?_⟩
  simp only [State.decoding_temp, State.decoding_pump, State.decoding_relay, State.decoding_opHours,
    State.extractBx_temp, State.extractBx_pump, State.extractBx_relay, State.extractBx_opHours,
    State.octet_decoding, h0.extractBx.octet, ← onAboveZero_eq]
  refine ⟨h0.tempBlocks_pair (by decide), fun i hi => h0.tempBlocks_rest (by decide) hi,
    fun j hj => h0.tempBlocks_pumps 4 (dests := [0, 1]) onAboveZero hj,
    fun j hj => State.tempBlocks_pumps_rest _ _ _ onAboveZero hj, hours0, hours1, otherHours, ?heat, ?otherRegisters⟩
  case heat => simpa [State.extractBx_eq] using hheat
  case otherRegisters => simp

/-! ### DEC.VBUS.MX (R191) -/

theorem State.extractMx_temp (s : State) : s.extractMx.temp = (s.tempBlocks 2).temp := by
  simp [State.extractMx_eq]

theorem State.extractMx_pump (s : State) :
    s.extractMx.pump = ((s.tempBlocks 2).pumps 21 [0, 1, 2, 3] onAboveZero).pump := by
  simp [State.extractMx_eq]

theorem State.extractMx_relay (s : State) :
    s.extractMx.relay = ((s.tempBlocks 2).pumps 21 [0, 1, 2, 3] onAboveZero).relay := by
  simp [State.extractMx_eq]

theorem State.extractMx_opHours (s : State) :
    s.extractMx.opHours = (((s.tempBlocks 2).pumps 21 [0, 1, 2, 3] onAboveZero).hoursBlock 27).opHours := by
  simp [State.extractMx_eq]

theorem Injects.extractMx (h : Injects s [] u) : Injects s [0, 1, 2, 3, 4, 5] u.extractMx := by
  rw [State.extractMx_eq]
  exact (((((h.tempBlocks 2).pumps 2 [0, 1, 2, 3] onAboveZero).hoursBlock 3).heatBlock 4).maskBlock
    5).setCounts 4 4 4

/-- Settles O28: the chain of R191, block by block. -/
theorem mxExtracts : Obligations.MxExtracts := by
  intro s
  have h0 := Injects.enterDecode s
  have h3 := (h0.tempBlocks 2).pumps 2 [0, 1, 2, 3] onAboveZero
  have h4 := h3.hoursBlock 3
  have hheat := h4.heatBlock_heatQuantityWh 4
  have hmask := (h4.heatBlock 4).maskBlock_errorMask 5
  have hframe := DecodeFrame.of_exec (i := .decVbusMx) rfl nofun (exec_decVbusMx s)
  obtain ⟨hours0, hours1, otherHours⟩ := h3.hoursBlock_opHours 3
  simp only [State.pumps_opHours, State.tempBlocks_opHours] at hours0 hours1 otherHours
  refine ⟨_, exec_decVbusMx s, hframe, ?_⟩
  simp only [State.decoding_temp, State.decoding_pump, State.decoding_relay, State.decoding_opHours,
    State.extractMx_temp, State.extractMx_pump, State.extractMx_relay, State.extractMx_opHours,
    State.octet_decoding, h0.extractMx.octet, ← onAboveZero_eq]
  refine ⟨h0.tempBlocks_pair (by decide), fun i hi => h0.tempBlocks_rest (by decide) hi,
    fun j hj => h0.tempBlocks_pumps 2 (dests := [0, 1, 2, 3]) onAboveZero hj,
    fun j hj => State.tempBlocks_pumps_rest _ _ _ onAboveZero hj, hours0, hours1, otherHours, ?heat, ?mask,
    ?otherRegisters⟩
  case heat => simpa [State.extractMx_eq] using hheat
  case mask => simpa [State.extractMx_eq] using hmask
  case otherRegisters => simp

/-! ### DEC.VBUS.VITOSOLIC (R189) -/

theorem State.extractVitosolic_temp (s : State) : s.extractVitosolic.temp = (s.tempBlocks 6).temp := by
  simp [State.extractVitosolic_eq]

theorem State.extractVitosolic_pump (s : State) : s.extractVitosolic.pump =
    (((s.tempBlocks 6).pumps 75 [0, 1, 2, 3] onAtHundred).pumps 81 [4, 5, 6] onAtHundred).pump := by
  simp [State.extractVitosolic_eq]

theorem State.extractVitosolic_relay (s : State) : s.extractVitosolic.relay =
    (((s.tempBlocks 6).pumps 75 [0, 1, 2, 3] onAtHundred).pumps 81 [4, 5, 6] onAtHundred).relay := by
  simp [State.extractVitosolic_eq]

theorem Injects.extractVitosolic (h : Injects s [] u) :
    Injects s [0, 1, 2, 3, 4, 5, 11, 12, 13, 14] u.extractVitosolic := by
  rw [State.extractVitosolic_eq]
  exact (((((h.tempBlocks 6).pumps 11 [0, 1, 2, 3] onAtHundred).pumps 12 [4, 5, 6] onAtHundred).maskAndTimeBlock
    13).variantBlock 14).setCounts 12 7 7

/-- Settles O26: the chain of R189, block by block; of the two pump blocks each leaves the other's registers alone. -/
theorem vitosolicExtracts : Obligations.VitosolicExtracts := by
  intro s
  have h0 := Injects.enterDecode s
  have h11 := (h0.tempBlocks 6).pumps 11 [0, 1, 2, 3] onAtHundred
  have h12 := h11.pumps 12 [4, 5, 6] onAtHundred
  obtain ⟨hmask, htime⟩ := h12.maskAndTimeBlock_writes 13
  have hvariant := (h12.maskAndTimeBlock 13).variantBlock_systemVariant 14
  have hframe := DecodeFrame.of_exec (i := .decVbusVitosolic) rfl nofun (exec_decVbusVitosolic s)
  refine ⟨_, exec_decVbusVitosolic s, hframe, ?_⟩
  simp only [State.decoding_temp, State.decoding_pump, State.decoding_relay, State.extractVitosolic_temp,
    State.extractVitosolic_pump, State.extractVitosolic_relay, State.octet_decoding, h0.extractVitosolic.octet,
    ← onAtHundred_eq]
  refine ⟨h0.tempBlocks_pair (by decide), fun i hi => h0.tempBlocks_rest (by decide) hi, fun j hj => ?firstPumps,
    fun j h4 h7 => ?secondPumps, fun j hj => ?otherPumps, ?mask, ?time, ?variant, ?otherRegisters⟩
  case firstPumps =>
    have hout : ¬(4 ≤ j.val ∧ j.val < 4 + 3) := by omega
    obtain ⟨hpump, hrelay⟩ := State.pumps_outside _ 81 (dests := [4, 5, 6]) onAtHundred hout
    rw [hpump, hrelay]
    exact h0.tempBlocks_pumps 11 (dests := [0, 1, 2, 3]) onAtHundred hj
  case secondPumps =>
    obtain ⟨hpump, hrelay⟩ := h11.pumps_inside 12 (dests := [4, 5, 6]) onAtHundred ⟨h4, h7⟩
    obtain ⟨hpump', hrelay'⟩ := s.enterDecode.tempBlocks_pumps_rest 6 75 (dests := [0, 1, 2, 3]) onAtHundred h4
    rw [hpump, hrelay, hpump', hrelay']
    exact ⟨rfl, rfl⟩
  case otherPumps =>
    have hout : ¬(4 ≤ j.val ∧ j.val < 4 + 3) := by omega
    obtain ⟨hpump, hrelay⟩ := State.pumps_outside _ 81 (dests := [4, 5, 6]) onAtHundred hout
    rw [hpump, hrelay]
    exact State.tempBlocks_pumps_rest _ _ _ onAtHundred (dests := [0, 1, 2, 3]) (Nat.le_trans (by decide) hj)
  case mask => simpa [State.extractVitosolic_eq] using hmask
  case time => simpa [State.extractVitosolic_eq] using htime
  case variant => simpa [State.extractVitosolic_eq] using hvariant
  case otherRegisters => simp

end Sys2Proof.Machine
end

section
/-! PROOFS. DECODE of KW, P300 and KM (45_decode_kw_p300_km.md): the KM frames that are no status record (R220), the
placeholder extractor of KW and P300 (R210 to R212), and the KM status record with its mirror in the generic arrays
(R214, R216, R217, R219). -/

namespace Sys2Proof.Machine

variable {s : State} {i : Instr} {start : Nat}

/-! ### DEC.KM.OTHER (R220) -/

/-- One test of R215 that fails is enough: the frame is no status record. -/
theorem State.not_isStatusRecord
    (h : (s.octet 1).toNat < 15 ∨ s.octet 4 ≠ 0xBF ∨ (s.octet 7).toNat < 0x1C ∨ 0x1F < (s.octet 7).toNat) :
    ¬ s.isStatusRecord := by
  rintro ⟨hlen, hcontrol, hlow, hhigh⟩
  obtain hlen' | hcontrol' | hlow' | hhigh' := h
  · exact Nat.not_lt.2 hlen hlen'
  · exact hcontrol' hcontrol
  · exact Nat.not_lt.2 hlow hlow'
  · exact Nat.not_lt.2 hhigh hhigh'

/-- Settles O34: the row condition of R81 is the failed test of R215, and the extractor inside the frame is empty. -/
theorem kmOtherTouchesNoData : Obligations.KmOtherTouchesNoData := by
  intro s
  refine ⟨fun hd h => State.selected_of_rowCondition ⟨hd, State.not_isStatusRecord h⟩, _, exec_decKmOther s,
    DecodeFrame.of_exec (i := .decKmOther) rfl nofun (exec_decKmOther s), ?snapshot, fun a => ?buffer⟩
  case snapshot => simp [SameSnapshot]
  case buffer => simp

/-! ### DEC.KW and DEC.P300 (R210 to R212) -/

/-- Both operations are `KWP_EXTRACT` inside the Decode frame (R211, R212). -/
theorem exec_kwp (hi : (i, start) ∈ [(Instr.decKw, 3), (Instr.decP300, 5)]) (s : State) :
    exec i s = .next (s.decoding fun t => t.kwpExtract start) ∧
      DecodeFrame s (s.decoding fun t => t.kwpExtract start) := by
  simp only [List.mem_cons, Prod.mk.injEq, List.not_mem_nil, or_false] at hi
  obtain ⟨rfl, rfl⟩ | ⟨rfl, rfl⟩ := hi
  · exact ⟨exec_decKw s, DecodeFrame.of_exec (i := .decKw) rfl nofun (exec_decKw s)⟩
  · exact ⟨exec_decP300 s, DecodeFrame.of_exec (i := .decP300) rfl nofun (exec_decP300 s)⟩

theorem State.kwpExtract_temp_get (s : State) (start : Nat) (j : Fin 32) :
    (s.kwpExtract start).temp.get j =
      if j.val < kwpCount (s.octet 1) start then be16 s.octet (start + 2 * j.val) else s.temp.get j :=
  s.kwpTemps_get start (Nat.le_trans (kwpCount_le ..) (by decide)) j

theorem State.kwpExtract_cleared (s : State) (start : Nat) (j : Fin 32) :
    (s.kwpExtract start).pump.get j = 0 ∧ (s.kwpExtract start).relay.get j = false := by
  simp [State.kwpExtract, Vector.get_eq_getElem]

/-- The counts are `nt, 0, 0`; the register of `nt` does not wrap, since `nt` is at most 4. -/
theorem State.kwpExtract_counts (s : State) (start : Nat) :
    (s.kwpExtract start).tempNum.toNat = kwpCount (s.octet 1) start ∧ (s.kwpExtract start).pumpNum = 0 ∧
      (s.kwpExtract start).relayNum = 0 := by
  have hle := kwpCount_le (s.octet 1) start
  exact ⟨Nat.mod_eq_of_lt (by omega), rfl, rfl⟩

@[simp] theorem State.octet_kwpExtract (s : State) (start x : Nat) : (s.kwpExtract start).octet x = s.octet x :=
  State.octet_congr (by simp) (by simp) x

/-- Settles O32: the two operations differ only in `start`. -/
theorem kwAndP300Extract : Obligations.KwAndP300Extract := by
  intro s i start hi
  obtain ⟨hexec, hframe⟩ := exec_kwp hi s
  obtain ⟨htemps, hpumps, hrelays⟩ := s.enterDecode.kwpExtract_counts start
  refine ⟨_, hexec, hframe, fun j => ?temp, fun j => ?cleared, htemps, hpumps, hrelays, ?otherRegisters⟩
  case temp => exact s.enterDecode.kwpExtract_temp_get start j
  case cleared => exact s.enterDecode.kwpExtract_cleared start j
  case otherRegisters => simp [SameBuffer]

/-! ### DEC.KM.STATUS (R219) -/

/-- The view's temperatures are `5 * d(k)` (R216). -/
theorem kmViewOf_temps (rd : Nat → Byte) (old : KmView) :
    (kmViewOf rd old).boiler.toNat = 5 * (rd 10 ^^^ 0xAA).toNat ∧
      (kmViewOf rd old).hotWater.toNat = 5 * (rd 11 ^^^ 0xAA).toNat ∧
      (kmViewOf rd old).setpoint.toNat = 5 * (rd 12 ^^^ 0xAA).toNat ∧
      (kmViewOf rd old).outdoor.toNat = 5 * (rd 14 ^^^ 0xAA).toNat ∧
      (kmViewOf rd old).departure.toNat = 5 * (rd 16 ^^^ 0xAA).toNat :=
  ⟨kmTemp_toNat rd 6, kmTemp_toNat rd 7, kmTemp_toNat rd 8, kmTemp_toNat rd 10, kmTemp_toNat rd 12⟩

/-- The view's single bits, and the mode behind the gate, which is compared as received (R217). -/
theorem kmViewOf_flags (rd : Nat → Byte) (old : KmView) :
    (kmViewOf rd old).burner = (rd 8 ^^^ 0xAA).getLsbD 2 ∧
      (kmViewOf rd old).mainPump = (rd 15 ^^^ 0xAA).getLsbD 7 ∧
      (kmViewOf rd old).loopPump = (rd 15 ^^^ 0xAA).getLsbD 6 ∧
      (kmViewOf rd old).mode = if rd 17 = 0xAA then rd 18 ^^^ 0xAA else old.mode :=
  ⟨rfl, rfl, rfl, rfl⟩

@[simp] theorem State.octet_kmExtract (s : State) (x : Nat) : s.kmExtract.octet x = s.octet x :=
  State.octet_congr (by simp) (by simp) x

/-- The mirror in `T[0..4]`: outdoor before setpoint. -/
theorem State.kmExtract_temp (s : State) :
    s.kmExtract.temp.get 0 = s.kmExtract.km.boiler ∧ s.kmExtract.temp.get 1 = s.kmExtract.km.hotWater ∧
      s.kmExtract.temp.get 2 = s.kmExtract.km.outdoor ∧ s.kmExtract.temp.get 3 = s.kmExtract.km.setpoint ∧
      s.kmExtract.temp.get 4 = s.kmExtract.km.departure ∧
      ∀ j : Fin 32, 5 ≤ j.val → s.kmExtract.temp.get j = s.temp.get j := by
  simp only [State.kmExtract, State.kmMirror, State.setCounts_temp, State.setRelay_temp, State.setPump_temp,
    State.setTemp_temp, Vector.get_eq_getElem, Vector.getElem_set]
  refine ⟨rfl, rfl, rfl, rfl, rfl, fun j hj => ?rest⟩
  case rest =>
    have hne : ∀ k : Fin 32, k.val < 5 → k.val ≠ j.val := by omega
    rw [if_neg (hne 4 (by decide)), if_neg (hne 3 (by decide)), if_neg (hne 2 (by decide)),
      if_neg (hne 1 (by decide)), if_neg (hne 0 (by decide))]

/-- The mirror in `P[0..1]`. -/
theorem State.kmExtract_pump (s : State) :
    s.kmExtract.pump.get 0 = kmPump s.kmExtract.km.mainPump ∧
      s.kmExtract.pump.get 1 = kmPump s.kmExtract.km.loopPump ∧
      ∀ j : Fin 32, 2 ≤ j.val → s.kmExtract.pump.get j = s.pump.get j := by
  simp only [State.kmExtract, State.kmMirror, State.setCounts_pump, State.setRelay_pump, State.setPump_pump,
    State.setTemp_pump, Vector.get_eq_getElem, Vector.getElem_set]
  refine ⟨rfl, rfl, fun j hj => ?rest⟩
  case rest =>
    have hne : ∀ k : Fin 32, k.val < 2 → k.val ≠ j.val := by omega
    rw [if_neg (hne 1 (by decide)), if_neg (hne 0 (by decide))]

/-- The mirror in `R[0]`. -/
theorem State.kmExtract_relay (s : State) :
    s.kmExtract.relay.get 0 = s.kmExtract.km.burner ∧
      ∀ j : Fin 32, 1 ≤ j.val → s.kmExtract.relay.get j = s.relay.get j := by
  simp only [State.kmExtract, State.kmMirror, State.setCounts_relay, State.setRelay_relay, State.setPump_relay,
    State.setTemp_relay, Vector.get_eq_getElem, Vector.getElem_set]
  refine ⟨rfl, fun j hj => ?rest⟩
  case rest => exact if_neg (Nat.ne_of_lt hj)

theorem State.kmExtract_counts (s : State) :
    s.kmExtract.tempNum = 5 ∧ s.kmExtract.pumpNum = 2 ∧ s.kmExtract.relayNum = 1 := ⟨rfl, rfl, rfl⟩

/-- Settles O33: the view is `kmViewOf` of the octets as the frame brought them; the mirror copies it. -/
theorem kmStatusExtracts : Obligations.KmStatusExtracts := by
  intro s
  have hframe := DecodeFrame.of_exec (i := .decKmStatus) rfl nofun (exec_decKmStatus s)
  obtain ⟨hburner, hmain, hloop, hmode⟩ := kmViewOf_flags s.octet s.km
  obtain ⟨hboiler, hwater, hsetpoint, houtdoor, hdeparture⟩ := kmViewOf_temps s.octet s.km
  obtain ⟨htemp0, htemp1, htemp2, htemp3, htemp4, htemps⟩ := s.enterDecode.kmExtract_temp
  obtain ⟨hpump0, hpump1, hpumps⟩ := s.enterDecode.kmExtract_pump
  obtain ⟨hrelay0, hrelays⟩ := s.enterDecode.kmExtract_relay
  obtain ⟨htempNum, hpumpNum, hrelayNum⟩ := s.enterDecode.kmExtract_counts
  refine ⟨_, exec_decKmStatus s, hframe, hburner, hboiler, hwater, hsetpoint, houtdoor, hmain, hloop, hdeparture,
    hmode, htemp0, htemp1, htemp2, htemp3, htemp4, htemps, hpump0, hpump1, hpumps, hrelay0, hrelays, htempNum,
    hpumpNum, hrelayNum, ?otherRegisters⟩
  case otherRegisters => simp [SameBuffer]

end Sys2Proof.Machine
end

section
/-! PROOFS. The watchdog, ERROR and the way back to SYNC (60_exceptions.md R239, R240, R242 to R244, R253): what WDOG and
ERR write and leave alone, when WDOG is selected, and what the two do one after the other. -/

namespace Sys2Proof.Machine

variable {s t : State} {i : Instr}

/-! ### What ERR and WDOG write -/

/-- An operation that is neither RESET nor a Decode operation and carries no event octet leaves alone the protocol, the
header registers, the snapshot and the inputs (R25, R29, R45, R71). -/
theorem Effect.frame_of_no_octet (e : Effect i s t) (hreset : i ≠ .reset) (hdecode : i.isDecode = false)
    (hoctet : i.eventOctet = none) :
    t.protocol = s.protocol ∧ t.header = s.header ∧ SameSnapshot s t ∧ SameInputs s t := by
  obtain ⟨hrearm, henv, hresets⟩ := e.model
  refine ⟨?protocol, e.header_of_not_writesHeader ?header, e.snapshot hreset hdecode, ?ports, hrearm, henv, ?resets⟩
  case protocol => rw [e.protocol, if_neg hreset]
  case header => cases i <;> simp [writesHeader, Instr.eventOctet] at *
  case ports => rw [e.ports, hoctet]; rfl
  case resets => rw [hresets, if_neg hreset]

/-- Settles O9: the four registers are those of `State.leaveError`; ERR carries no event octet. -/
theorem errClearsFlagsAndReturns : Obligations.ErrClearsFlagsAndReturns := by
  intro s
  have hx : exec .err s = .next s.leaveError := exec_err s
  obtain ⟨hprotocol, hheader, hsnapshot, hinputs⟩ := (Effect.of_exec hx).frame_of_no_octet nofun rfl rfl
  exact ⟨State.selected_of_error, _, hx, s.leaveError_busOk, s.leaveError_ready, s.leaveError_writeIdx,
    s.leaveError_phase, hprotocol, s.leaveError_lastProgressMs, hheader, hsnapshot, hinputs, s.octet_leaveError⟩

/-- Settles O10: raising the Error moves the phase, and re-arming writes `last_progress_ms` only. -/
theorem wdogRearmsAndRaises : Obligations.WdogRearmsAndRaises := by
  intro s
  have hx := exec_wdog s
  have e := Effect.of_exec hx
  obtain ⟨hprotocol, hheader, hsnapshot, hinputs⟩ := e.frame_of_no_octet nofun rfl rfl
  refine ⟨_, hx, rfl, ?lastProgress, ?writeIdx, hprotocol, hheader, ⟨e.ready, e.busOk⟩, hsnapshot, hinputs, ?buffer⟩
  case lastProgress => cases hrearm : s.wdogRearm <;> rfl
  case writeIdx => cases s.wdogRearm <;> rfl
  case buffer => intro a; cases s.wdogRearm <;> rfl

/-! ### When the watchdog is due, and when WDOG is selected -/

/-- The watchdog condition reads two values: `now_ms` and `last_progress_ms` (R22). -/
theorem State.wdogDue_congr (hports : t.ports = s.ports) (hlast : t.lastProgressMs = s.lastProgressMs) :
    t.wdogDue = s.wdogDue := by
  rw [State.wdogDue, State.wdogDue, hports, hlast]

theorem State.selected_eq_wdog_iff (s : State) : s.selected = .wdog ↔ s.listens ∧ s.wdogDue = true := by
  constructor
  · intro h
    have sel : Selected s .wdog := h ▸ s.selected_spec
    cases sel with
    | wdog h hw => exact ⟨h, hw⟩
    | decode _ _ hi => cases decodeOps_isDecode _ _ hi
    | sync _ hi => cases syncOps_eventOctet _ _ _ hi
    | receive _ hi => cases receiveOps_eventOctet _ _ _ hi
  · rintro ⟨h, hw⟩
    exact State.selected_of_wdogDue h hw

/-- Settles O40: WDOG is selected where the block listens with the watchdog due. -/
theorem watchdogFiresStrictlyAfterLimit : Obligations.WatchdogFiresStrictlyAfterLimit := by
  intro s hr
  have hlast : s.lastProgressMs.toNat < 2 ^ 32 := s.lastProgressMs.isLt
  have helapsed : 2 ^ 32 - s.lastProgressMs.toNat + s.ports.nowMs.toNat =
      s.ports.nowMs.toNat + 2 ^ 32 - s.lastProgressMs.toNat := by omega
  rw [State.selected_eq_wdog_iff, State.wdogDue_iff, helapsed, State.listens, and_iff_right hr]

/-- Once due, the watchdog is due after WDOG exactly without WDOG_REARM (R243, R244). -/
theorem wdogDue_after_wdog (hw : s.wdogDue = true) (hports : t.ports = s.ports)
    (hlast : t.lastProgressMs = if s.wdogRearm then s.ports.nowMs else s.lastProgressMs) :
    t.wdogDue = !s.wdogRearm := by
  cases hrearm : s.wdogRearm
  case false =>
    have hkept : t.lastProgressMs = s.lastProgressMs := by simpa [hrearm] using hlast
    rw [State.wdogDue_congr hports hkept, hw]; rfl
  case true =>
    have hfed : t.lastProgressMs = t.ports.nowMs := by simpa [hrearm, hports] using hlast
    exact State.wdogDue_of_eq hfed

/-- Settles O41: WDOG decides whether the watchdog is still due, and ERR touches neither of the values it reads. -/
theorem rearmDecidesWhetherWatchdogRepeats : Obligations.RearmDecidesWhetherWatchdogRepeats := by
  intro s hw
  obtain ⟨t, hx, -, hlast, -, -, -, -, -, ⟨hports, -⟩, -⟩ := wdogRearmsAndRaises s
  have hdue : t.leaveError.wdogDue = t.wdogDue := State.wdogDue_congr t.leaveError_ports t.leaveError_lastProgressMs
  exact ⟨t, t.leaveError, hx, exec_err t, t.leaveError_phase, hports, hdue.trans (wdogDue_after_wdog hw hports hlast)⟩

/-! ### The steps of WDOG, ERR and Decode -/

theorem State.rxReady_of_error (hp : s.phase = .error) : s.rxReady = false := by
  simp [State.rxReady, hp]

theorem State.rxReady_of_wdogDue (hw : s.wdogDue = true) : s.rxReady = false := by
  simp [State.rxReady, hw]

theorem step_of_error (hr : s.ports.rst = false) (hp : s.phase = .error) : step s = .next s.leaveError.boundary :=
  step_of_exec_next (by rw [State.selected_of_error hr hp]; exact exec_err s)

theorem step_of_wdogDue (h : s.listens) (hw : s.wdogDue = true) (hx : exec .wdog s = .next t) :
    step s = .next t.boundary :=
  step_of_exec_next (by rw [State.selected_of_wdogDue h hw]; exact hx)

/-- The step of ERR ends in SYNC at index 0 (R240). -/
theorem step_to_sync_of_error (hr : s.ports.rst = false) (hp : s.phase = .error) :
    ∃ t, step s = .next t ∧ t.phase = .sync ∧ t.writeIdx = 0 :=
  ⟨_, step_of_error hr hp, s.leaveError.boundary_phase, s.leaveError.boundary_writeIdx⟩

/-- A Decode step ends in SYNC at index 0 (R180). -/
theorem step_to_sync_of_decode (hr : s.ports.rst = false) (hp : s.phase = .decode) :
    ∃ t, step s = .next t ∧ t.phase = .sync ∧ t.writeIdx = 0 := by
  have hd : s.selected.isDecode = true := s.isDecode_selected_iff.2 ⟨hr, hp⟩
  obtain ⟨t, hx⟩ := exec_next_of_isDecode hd s
  obtain ⟨-, -, -, hphase, hidx, -⟩ := frame_of_exec_decode hd hx
  exact ⟨_, step_of_exec_next hx, t.boundary_phase.trans hphase, t.boundary_writeIdx.trans hidx⟩

/-- Settles O42: the step is ERR, and the step boundary moves none of what ERR cleared. -/
theorem errorLastsOneStep : Obligations.ErrorLastsOneStep := by
  intro s hr hp
  exact ⟨State.selected_of_error hr hp, State.rxReady_of_error hp, _, step_of_error hr hp,
    s.leaveError.boundary_phase, s.leaveError.boundary_writeIdx, s.leaveError.boundary_ready,
    s.leaveError.boundary_busOk⟩

/-- Settles O43: a Decode step and the step of ERR end in SYNC, and WDOG leads to the step of ERR. -/
theorem backInSyncWithinTwoSteps : Obligations.BackInSyncWithinTwoSteps := by
  intro s hr
  refine ⟨?oneStep, fun hp hw => ?twoSteps⟩
  case oneStep =>
    rintro (hp | hp)
    · exact step_to_sync_of_decode hr hp
    · exact step_to_sync_of_error hr hp
  case twoSteps =>
    obtain ⟨t, hx, hphase, -⟩ := wdogRearmsAndRaises s
    have hraised : t.boundary.phase = .error := t.boundary_phase.trans hphase
    exact ⟨t.boundary, step_of_wdogDue ⟨hr, hp⟩ hw hx, hraised, fun hr' => step_to_sync_of_error hr' hraised⟩

/-- Settles O46: with no environment move left the two steps are WDOG and ERR at the same inputs, and without WDOG_REARM
neither of them touches what the watchdog condition reads. -/
theorem wedgeWithoutRearm : Obligations.WedgeWithoutRearm := by
  intro s hrearm henv h hw
  obtain ⟨t, hx, hphase, hlast, -, -, -, -, -, ⟨hports, hrearm', henv', -⟩, -⟩ := wdogRearmsAndRaises s
  have hr : t.ports.rst = false := by rw [hports]; exact h.rst
  have hnone : t.env = [] := henv'.trans henv
  have hfirst : step s = .next t := by
    rw [step_of_wdogDue h hw hx, State.boundary_of_nil hnone]
  have hsecond : step t = .next t.leaveError := by
    rw [step_of_error hr hphase, State.boundary_of_nil (t.leaveError_env.trans hnone)]
  have hdue : t.leaveError.wdogDue = true := by
    rw [State.wdogDue_congr t.leaveError_ports t.leaveError_lastProgressMs, wdogDue_after_wdog hw hports hlast, hrearm]
    rfl
  exact ⟨State.selected_of_wdogDue h hw, State.rxReady_of_wdogDue hw, t, hfirst, State.selected_of_error hr hphase,
    State.rxReady_of_error hphase, t.leaveError, hsecond, hrearm'.trans hrearm, hnone,
    ⟨hr, .inl t.leaveError_phase⟩, hdue, hports, t.leaveError_ready, t.leaveError_busOk⟩

end Sys2Proof.Machine
end
